-- ==== Sys2Proof/Word.lean ====
section
/-! DEFINITION. The words of KX63-FE (spec/00_scope.md R9, R10): bytes, 64-byte frames, colours. -/

namespace Sys2Proof

/-- A byte, an unsigned integer 0..255 (R9). -/
abbrev Byte := BitVec 8

/-- A frame: a byte list of length exactly 64 (R10, R90). The length is part of the type, so a shorter or
longer report, to which R50 gives no meaning, cannot be written down (notes/assumptions/18.md). -/
structure Frame where
  bytes : List Byte
  len   : bytes.length = 64
deriving DecidableEq, Repr

/-- `F[i]`, the byte of a frame at index `i`, `0 <= i <= 63` (R10). No rule reads another index. -/
def Frame.get (F : Frame) (i : Nat) : Byte := F.bytes.getD i 0

/-- A colour: a triple of bytes (R10). -/
structure Colour where
  r : Byte
  g : Byte
  b : Byte
deriving DecidableEq, Repr

/-- The forty 24-bit colour registers `COL[0..39]` of the command latch (R21), and the forty colour fields of
a command word (R70). -/
structure ColourRegs where
  list : List Colour
  len  : list.length = 40
deriving DecidableEq, Repr

end Sys2Proof
end

