-- ==== Sys2Proof/Syntax.lean ====
section
/-! DEFINITION. The syntax of KX63-FE: the closed enumerations of spec/30_encoding.md R71 and R72, the operands of
a command word (R70), the fields of each frame kind (R76 to R86), and `Instr`, one constructor per row of
spec/opcode_table.json (R93). -/

namespace Sys2Proof

/-- The four channels; `sync` is the alias of the three others together (R71). -/
inductive Channel where
  | external | ring | logo | sync
deriving DecidableEq, Repr

/-- The closed enumeration of effects (R72; decision D1 of spec/92_eei_decisions.md). -/
inductive Effect where
  | fixed | fading | spectrumWave | marquee3 | marquee4
  | marquee5 | marquee6 | alternating3 | alternating4 | alternating5
  | alternating6 | movingAlternating3 | movingAlternating4 | movingAlternating5 | movingAlternating6
  | pulse | breathing | candle | starryNight | rainbowFlow
  | superRainbow | rainbowPulse | loading | taiChi | waterCooler
  | wings | superFixed | superBreathing | backwardSpectrumWave | backwardMarquee3
  | backwardMarquee4 | backwardMarquee5 | backwardMarquee6 | backwardMovingAlternating3 | backwardMovingAlternating4
  | backwardMovingAlternating5 | backwardMovingAlternating6 | backwardRainbowFlow | backwardSuperRainbow | backwardRainbowPulse
deriving DecidableEq, Repr

/-- The `family` column of R72's table. -/
inductive Family where
  | fixed | fading | spectrumWave | marquee | alternating
  | movingAlternating | pulse | breathing | candle | starryNight
  | rainbowFlow | superRainbow | rainbowPulse | loading | taiChi
  | waterCooler | wings | superFixed | superBreathing
deriving DecidableEq, Repr

/-- The `path` column of R72's table: the encoding strategy `build` dispatches to (R74). -/
inductive Path where
  | default | dense | wings
deriving DecidableEq, Repr

/-- One row of R72's table without the name: code, family, group length of a length family, the "backwards" flag,
and the path. -/
structure EffectInfo where
  code   : Nat
  family : Family
  len    : Option Nat
  bwd    : Bool
  path   : Path
deriving DecidableEq, Repr

/-- The operands of a command word other than the effect code (R70): `chsel`, `spd` (all eight codes, 5..7 being
reserved: R73, R88), `n` (0..63) and the forty colour fields. -/
structure CmdArgs where
  ch  : Channel
  spd : BitVec 3
  n   : BitVec 6
  col : ColourRegs
deriving DecidableEq, Repr

/-- The fields of a LIGHT frame (R77). `f55` to `f59` are the five footer bytes as they lie on the wire: `dir`, `mode`,
`static`, `count`, `size` under the default `FOOTER_ORDER`. -/
structure LightFields where
  cid    : Channel
  opcode : Byte
  t0     : Byte
  t1     : Byte
  slots  : List Colour
  f55    : Byte
  f56    : Byte
  f57    : Byte
  f58    : Byte
  f59    : Byte
deriving DecidableEq, Repr

/-- The fields of a PALC frame (R78): twenty whole colour slots (bytes 3..62), and byte 63, which is zero but for
the first byte of slot 20 under `DENSE_OVERFLOW = truncate` (R162). -/
structure PalcFields where
  cid   : Channel
  slots : List Colour
  last  : Byte
deriving DecidableEq, Repr

/-- The fields of a PALT frame (R80). -/
structure PaltFields where
  cid    : Channel
  opcode : Byte
  t0     : Byte
  t1     : Byte
deriving DecidableEq, Repr

/-- The fields of a ZONE frame (R81): zone index 0..7, the 13 template bytes and the 6 bytes of the palette group. -/
structure ZoneFields where
  cid      : Channel
  zone     : BitVec 3
  template : List Byte
  group    : List Byte
deriving DecidableEq, Repr

/-- The operations and frame kinds of KX63-FE, one constructor per row of spec/opcode_table.json (R93): the forty
`SET` commands, the ten outbound frame kinds, the three inbound frame kinds, and the three operations. -/
inductive Instr where
  | setFixed (a : CmdArgs)
  | setFading (a : CmdArgs)
  | setSpectrumWave (a : CmdArgs)
  | setMarquee3 (a : CmdArgs)
  | setMarquee4 (a : CmdArgs)
  | setMarquee5 (a : CmdArgs)
  | setMarquee6 (a : CmdArgs)
  | setAlternating3 (a : CmdArgs)
  | setAlternating4 (a : CmdArgs)
  | setAlternating5 (a : CmdArgs)
  | setAlternating6 (a : CmdArgs)
  | setMovingAlternating3 (a : CmdArgs)
  | setMovingAlternating4 (a : CmdArgs)
  | setMovingAlternating5 (a : CmdArgs)
  | setMovingAlternating6 (a : CmdArgs)
  | setPulse (a : CmdArgs)
  | setBreathing (a : CmdArgs)
  | setCandle (a : CmdArgs)
  | setStarryNight (a : CmdArgs)
  | setRainbowFlow (a : CmdArgs)
  | setSuperRainbow (a : CmdArgs)
  | setRainbowPulse (a : CmdArgs)
  | setLoading (a : CmdArgs)
  | setTaiChi (a : CmdArgs)
  | setWaterCooler (a : CmdArgs)
  | setWings (a : CmdArgs)
  | setSuperFixed (a : CmdArgs)
  | setSuperBreathing (a : CmdArgs)
  | setBackwardSpectrumWave (a : CmdArgs)
  | setBackwardMarquee3 (a : CmdArgs)
  | setBackwardMarquee4 (a : CmdArgs)
  | setBackwardMarquee5 (a : CmdArgs)
  | setBackwardMarquee6 (a : CmdArgs)
  | setBackwardMovingAlternating3 (a : CmdArgs)
  | setBackwardMovingAlternating4 (a : CmdArgs)
  | setBackwardMovingAlternating5 (a : CmdArgs)
  | setBackwardMovingAlternating6 (a : CmdArgs)
  | setBackwardRainbowFlow (a : CmdArgs)
  | setBackwardSuperRainbow (a : CmdArgs)
  | setBackwardRainbowPulse (a : CmdArgs)
  | light (f : LightFields)
  | palc (f : PalcFields)
  | palx (cid : Channel)
  | palt (f : PaltFields)
  | zone (f : ZoneFields)
  | zen (cid : Channel)
  | fwreq (F : Frame)
  | ltreq (F : Frame)
  | setint (F : Frame)
  | ltconf (F : Frame)
  | fwinfo (F : Frame)
  | ltinfo (F : Frame)
  | status (F : Frame)
  | init
  | poll
  | emit
deriving DecidableEq, Repr

end Sys2Proof
end

