-- ==== Sys2Proof/Machine/Bytes.lean ====
section
/-! DEFINITION. Byte lists, bit slices and byte orders: the notation of spec/00_scope.md R9, R10 and the orders of
spec/20_memory.md R53, R54. -/

namespace Sys2Proof

/-- `zeros(k)`, `k` zero bytes (R10). -/
def zeros (k : Nat) : List Byte := List.replicate k 0

/-- `first64(L)`: the first 64 bytes of `L`, or `L` itself if it is no longer (spec/41_dense_path.md R160). -/
def first64 (L : List Byte) : List Byte := L.take 64

/-- `pad64(L) = L ++ zeros(64 - len L)` (R10), "defined only when `len L <= 64`": `pad64_bytes` of
Sys2Proof/Laws/Bytes.lean says that, on those lists, this is that sum. -/
def pad64 (L : List Byte) : Frame :=
  ⟨first64 (L ++ zeros (64 - L.length)), by simp [first64, zeros]; omega⟩

/-- `bits[hi:lo]` of `v` with `len = hi - lo + 1`: `(v >> lo) mod 2^len` (R9). -/
def bits (lo len v : Nat) : Nat := (v >>> lo) % 2 ^ len

/-- `le16(b0, b1) = b0 + 256*b1` (R9, R53). -/
def le16 (b0 b1 : Byte) : BitVec 16 := BitVec.ofNat 16 (b0.toNat + 256 * b1.toNat)

/-- `grb(c) = [c.G, c.R, c.B]`, the wire order of a colour (R10, R54). -/
def grb (c : Colour) : List Byte := [c.g, c.r, c.b]

/-- Forty colour fields that begin with the given colours, the others zero. -/
def ColourRegs.ofList (cs : List Colour) : ColourRegs :=
  ⟨(cs ++ List.replicate 40 (Colour.mk 0 0 0)).take 40, by simp⟩

/-- The 64 bytes of a frame read from a number, byte 0 the least significant (the numbering of
spec/opcode_table.json's words). -/
def Frame.ofNat (w : Nat) : Frame :=
  ⟨(List.range 64).map fun i => BitVec.ofNat 8 (bits (8 * i) 8 w), by simp⟩

/-- `CHID`: the fixed 3-bit channel identifiers (R6, R71). -/
def chid : Channel → BitVec 3
  | .external => 0b001
  | .ring     => 0b010
  | .logo     => 0b100
  | .sync     => 0b111

/-- `cid(ch)` as a byte of a frame: the channel id zero-extended (R71, R87 (i)). -/
def cidByte (ch : Channel) : Byte := (chid ch).zeroExtend 8

/-- The channel whose id a frame byte holds; `none` for a byte that is no channel id (R71). -/
def Channel.ofCid (b : Byte) : Option Channel :=
  [Channel.external, .ring, .logo, .sync].find? fun ch => cidByte ch = b

/-- `chsel`, the 2-bit channel selector of a command word (R71). -/
def Channel.sel : Channel → BitVec 2
  | .external => 0
  | .ring     => 1
  | .logo     => 2
  | .sync     => 3

/-- The channel of a selector; all four values are legal (R71). -/
def Channel.ofSel (v : BitVec 2) : Channel :=
  match v with
  | 0 => .external
  | 1 => .ring
  | 2 => .logo
  | 3 => .sync

end Sys2Proof
end

