-- ==== Sys2Proof/Machine/Effects.lean ====
section
/-! DEFINITION. The effect table of spec/30_encoding.md R72, and which `SET` instruction stands for which effect. -/

namespace Sys2Proof

/-- R72's table, one row per effect. -/
def Effect.info : Effect → EffectInfo
  | .fixed => ⟨0, .fixed, none, false, .default⟩
  | .fading => ⟨1, .fading, none, false, .default⟩
  | .spectrumWave => ⟨2, .spectrumWave, none, false, .default⟩
  | .marquee3 => ⟨3, .marquee, some 3, false, .default⟩
  | .marquee4 => ⟨4, .marquee, some 4, false, .default⟩
  | .marquee5 => ⟨5, .marquee, some 5, false, .default⟩
  | .marquee6 => ⟨6, .marquee, some 6, false, .default⟩
  | .alternating3 => ⟨7, .alternating, some 3, false, .default⟩
  | .alternating4 => ⟨8, .alternating, some 4, false, .default⟩
  | .alternating5 => ⟨9, .alternating, some 5, false, .default⟩
  | .alternating6 => ⟨10, .alternating, some 6, false, .default⟩
  | .movingAlternating3 => ⟨11, .movingAlternating, some 3, false, .default⟩
  | .movingAlternating4 => ⟨12, .movingAlternating, some 4, false, .default⟩
  | .movingAlternating5 => ⟨13, .movingAlternating, some 5, false, .default⟩
  | .movingAlternating6 => ⟨14, .movingAlternating, some 6, false, .default⟩
  | .pulse => ⟨15, .pulse, none, false, .default⟩
  | .breathing => ⟨16, .breathing, none, false, .default⟩
  | .candle => ⟨17, .candle, none, false, .default⟩
  | .starryNight => ⟨18, .starryNight, none, false, .default⟩
  | .rainbowFlow => ⟨19, .rainbowFlow, none, false, .default⟩
  | .superRainbow => ⟨20, .superRainbow, none, false, .default⟩
  | .rainbowPulse => ⟨21, .rainbowPulse, none, false, .default⟩
  | .loading => ⟨22, .loading, none, false, .default⟩
  | .taiChi => ⟨23, .taiChi, none, false, .default⟩
  | .waterCooler => ⟨24, .waterCooler, none, false, .default⟩
  | .wings => ⟨25, .wings, none, false, .wings⟩
  | .superFixed => ⟨26, .superFixed, none, false, .dense⟩
  | .superBreathing => ⟨27, .superBreathing, none, false, .dense⟩
  | .backwardSpectrumWave => ⟨28, .spectrumWave, none, true, .default⟩
  | .backwardMarquee3 => ⟨29, .marquee, some 3, true, .default⟩
  | .backwardMarquee4 => ⟨30, .marquee, some 4, true, .default⟩
  | .backwardMarquee5 => ⟨31, .marquee, some 5, true, .default⟩
  | .backwardMarquee6 => ⟨32, .marquee, some 6, true, .default⟩
  | .backwardMovingAlternating3 => ⟨33, .movingAlternating, some 3, true, .default⟩
  | .backwardMovingAlternating4 => ⟨34, .movingAlternating, some 4, true, .default⟩
  | .backwardMovingAlternating5 => ⟨35, .movingAlternating, some 5, true, .default⟩
  | .backwardMovingAlternating6 => ⟨36, .movingAlternating, some 6, true, .default⟩
  | .backwardRainbowFlow => ⟨37, .rainbowFlow, none, true, .default⟩
  | .backwardSuperRainbow => ⟨38, .superRainbow, none, true, .default⟩
  | .backwardRainbowPulse => ⟨39, .rainbowPulse, none, true, .default⟩

/-- The members of the enumeration in the order of their codes (R72). -/
def Effect.all : List Effect :=
  [.fixed, .fading, .spectrumWave, .marquee3, .marquee4, .marquee5,
   .marquee6, .alternating3, .alternating4, .alternating5, .alternating6, .movingAlternating3,
   .movingAlternating4, .movingAlternating5, .movingAlternating6, .pulse, .breathing, .candle,
   .starryNight, .rainbowFlow, .superRainbow, .rainbowPulse, .loading, .taiChi,
   .waterCooler, .wings, .superFixed, .superBreathing, .backwardSpectrumWave, .backwardMarquee3,
   .backwardMarquee4, .backwardMarquee5, .backwardMarquee6, .backwardMovingAlternating3, .backwardMovingAlternating4, .backwardMovingAlternating5,
   .backwardMovingAlternating6, .backwardRainbowFlow, .backwardSuperRainbow, .backwardRainbowPulse]

/-- The 6-bit effect code of a command word (R70, R72). -/
def Effect.code (e : Effect) : BitVec 6 := BitVec.ofNat 6 e.info.code

/-- The effect of a code; `none` for the reserved codes 40..63 (R72, R88). -/
def Effect.ofCode (c : BitVec 6) : Option Effect := Effect.all[c.toNat]?

/-- The `SET` instruction of an effect (R93). -/
def Instr.ofEffect (e : Effect) (a : CmdArgs) : Instr :=
  match e with
  | .fixed => .setFixed a
  | .fading => .setFading a
  | .spectrumWave => .setSpectrumWave a
  | .marquee3 => .setMarquee3 a
  | .marquee4 => .setMarquee4 a
  | .marquee5 => .setMarquee5 a
  | .marquee6 => .setMarquee6 a
  | .alternating3 => .setAlternating3 a
  | .alternating4 => .setAlternating4 a
  | .alternating5 => .setAlternating5 a
  | .alternating6 => .setAlternating6 a
  | .movingAlternating3 => .setMovingAlternating3 a
  | .movingAlternating4 => .setMovingAlternating4 a
  | .movingAlternating5 => .setMovingAlternating5 a
  | .movingAlternating6 => .setMovingAlternating6 a
  | .pulse => .setPulse a
  | .breathing => .setBreathing a
  | .candle => .setCandle a
  | .starryNight => .setStarryNight a
  | .rainbowFlow => .setRainbowFlow a
  | .superRainbow => .setSuperRainbow a
  | .rainbowPulse => .setRainbowPulse a
  | .loading => .setLoading a
  | .taiChi => .setTaiChi a
  | .waterCooler => .setWaterCooler a
  | .wings => .setWings a
  | .superFixed => .setSuperFixed a
  | .superBreathing => .setSuperBreathing a
  | .backwardSpectrumWave => .setBackwardSpectrumWave a
  | .backwardMarquee3 => .setBackwardMarquee3 a
  | .backwardMarquee4 => .setBackwardMarquee4 a
  | .backwardMarquee5 => .setBackwardMarquee5 a
  | .backwardMarquee6 => .setBackwardMarquee6 a
  | .backwardMovingAlternating3 => .setBackwardMovingAlternating3 a
  | .backwardMovingAlternating4 => .setBackwardMovingAlternating4 a
  | .backwardMovingAlternating5 => .setBackwardMovingAlternating5 a
  | .backwardMovingAlternating6 => .setBackwardMovingAlternating6 a
  | .backwardRainbowFlow => .setBackwardRainbowFlow a
  | .backwardSuperRainbow => .setBackwardSuperRainbow a
  | .backwardRainbowPulse => .setBackwardRainbowPulse a

end Sys2Proof
end

