-- ==== Sys2Proof/WellFormed.lean ====
section
/-! DEFINITION. Well-formed instructions: the operands the frame layouts of spec/30_encoding.md R77 to R86 can hold.
Every operand of a `SET` is well formed by its type. -/

namespace Sys2Proof

/-- The first two bytes of a frame, its frame opcode or its tag (R76). -/
def Frame.tag (F : Frame) : Byte × Byte := (F.get 0, F.get 1)

/-- The operand checks. LIGHT has sixteen slots (R77), PALC twenty (R78), ZONE a 13-byte template and a 6-byte group
(R81); FWREQ, LTREQ and SETINT begin with the byte spec/opcode_table.json fixes (R83, inferred by D14), LTCONF has no
fixed byte; FWINFO and LTINFO carry their tags (R84, R85); every frame is a STATUS frame (R86). -/
def Instr.wellFormed : Instr → Bool
  | .light f  => f.slots.length = 16
  | .palc f   => f.slots.length = 20
  | .zone f   => f.template.length = 13 && f.group.length = 6
  | .fwreq F  => F.get 0 = 0x10
  | .ltreq F  => F.get 0 = 0x20
  | .setint F => F.get 0 = 0x70
  | .fwinfo F => F.tag = (0x11, 0x01)
  | .ltinfo F => F.tag = (0x21, 0x03)
  | .setFixed _ => true
  | .setFading _ => true
  | .setSpectrumWave _ => true
  | .setMarquee3 _ => true
  | .setMarquee4 _ => true
  | .setMarquee5 _ => true
  | .setMarquee6 _ => true
  | .setAlternating3 _ => true
  | .setAlternating4 _ => true
  | .setAlternating5 _ => true
  | .setAlternating6 _ => true
  | .setMovingAlternating3 _ => true
  | .setMovingAlternating4 _ => true
  | .setMovingAlternating5 _ => true
  | .setMovingAlternating6 _ => true
  | .setPulse _ => true
  | .setBreathing _ => true
  | .setCandle _ => true
  | .setStarryNight _ => true
  | .setRainbowFlow _ => true
  | .setSuperRainbow _ => true
  | .setRainbowPulse _ => true
  | .setLoading _ => true
  | .setTaiChi _ => true
  | .setWaterCooler _ => true
  | .setWings _ => true
  | .setSuperFixed _ => true
  | .setSuperBreathing _ => true
  | .setBackwardSpectrumWave _ => true
  | .setBackwardMarquee3 _ => true
  | .setBackwardMarquee4 _ => true
  | .setBackwardMarquee5 _ => true
  | .setBackwardMarquee6 _ => true
  | .setBackwardMovingAlternating3 _ => true
  | .setBackwardMovingAlternating4 _ => true
  | .setBackwardMovingAlternating5 _ => true
  | .setBackwardMovingAlternating6 _ => true
  | .setBackwardRainbowFlow _ => true
  | .setBackwardSuperRainbow _ => true
  | .setBackwardRainbowPulse _ => true
  | .palx _ => true
  | .palt _ => true
  | .zen _ => true
  | .ltconf _ => true
  | .status _ => true
  | .init => true
  | .poll => true
  | .emit => true

end Sys2Proof
end

