-- ==== Sys2Proof/Decode.lean ====
section
/-! DEFINITION. Decoding, from the word of the command port and from 64-byte frames (spec/30_encoding.md R70 to R89),
and the encoder written from the same tables. The decoder is total and rejects by name. -/

namespace Sys2Proof

/-- A command word `CMD`, 977 bits (R70): the 17 bits `CMD[16:0]` of `chsel`, `eff`, `spd` and `n`, and the forty 24-bit
fields `CMD[17+24i+23 : 17+24i]`. -/
structure CmdWord where
  head : BitVec 17
  cols : List (BitVec 24)
  len  : cols.length = 40
deriving DecidableEq, Repr

/-- What the host can present to the block: a command word (R70), or one of the operations `INIT` and `POLL`, which have no
binary encoding (R93) and come on lines of their own. -/
inductive PortWord where
  | cmd (w : CmdWord)
  | init
  | poll
deriving DecidableEq, Repr

/-- The bits of an instruction, with the place they lie in: the host's port; the burst sequencer's internal emit step
(R93: no binary selector); a frame a burst sends (R77 to R82); handshake request `k` (R83, told apart by its place, since
no byte of LTCONF is fixed); a frame received during the handshake (R84, R85); and one received after it, which is a
STATUS frame whatever it holds (R86, R89). -/
inductive Raw where
  | port (p : PortWord)
  | emit
  | sent (F : Frame)
  | request (k : BitVec 2) (F : Frame)
  | handshake (F : Frame)
  | telemetry (F : Frame)
deriving DecidableEq, Repr

/-- Why the decoder rejects: `unknownEffect`, a command word with a reserved effect code 40..63 (R88: the machine then
raises `UnknownEffect`, R211); and, of a frame, an opcode of no row (R76), a byte that is no channel id (R71), a second
channel id unlike the first (R101), a nonzero byte where the layout has padding (R89), a wrong `DENSE_SUFFIX` (R80) or ZEN
constant (R82), a zone index above 7 (R81), or no handshake tag (R89). -/
inductive Reject where
  | unknownEffect (code : BitVec 6) (a : CmdArgs)
  | frameOpcode
  | channelId
  | channelIdPair
  | padding
  | constant
  | zoneIndex
  | handshakeTag
deriving DecidableEq, Repr

/-- `DENSE_SUFFIX`, the nine constant bytes of a PALT frame (R6, R80, R164). -/
def denseSuffix : List Byte := [0x08, 0x00, 0x00, 0x80, 0x00, 0x32, 0x00, 0x00, 0x01]

/-- The command word of a number, bit 0 the least significant (R70). -/
def CmdWord.ofNat (w : Nat) : CmdWord :=
  ⟨BitVec.ofNat 17 (bits 0 17 w), (List.range 40).map fun i => BitVec.ofNat 24 (bits (17 + 24 * i) 24 w), by simp⟩

/-- The number a command word is (R70). -/
def CmdWord.toNat (w : CmdWord) : Nat :=
  w.head.toNat + 2 ^ 17 * w.cols.foldr (fun c v => c.toNat + 2 ^ 24 * v) 0

/-- A colour field: bits [23:16] R, [15:8] G, [7:0] B (R70). -/
def colourField (c : Colour) : BitVec 24 := c.r ++ c.g ++ c.b

/-- The colour in a colour field (R70). -/
def Colour.ofField (v : BitVec 24) : Colour := ⟨v.extractLsb' 16 8, v.extractLsb' 8 8, v.extractLsb' 0 8⟩

/-- The operands in a command word: `CMD[1:0]`, `CMD[10:8]`, `CMD[16:11]` and the colours (R70). -/
def cmdArgs (w : CmdWord) : CmdArgs :=
  { ch  := Channel.ofSel (w.head.extractLsb' 0 2)
    spd := w.head.extractLsb' 8 3
    n   := w.head.extractLsb' 11 6
    col := ⟨w.cols.map Colour.ofField, by simp [w.len]⟩ }

/-- The effect code of a command word, `CMD[7:2]` (R70). -/
def cmdCode (w : CmdWord) : BitVec 6 := w.head.extractLsb' 2 6

/-- A command word is the `SET` of its effect; a reserved effect code is rejected (R70, R72, R88). -/
def decodeCmd (w : CmdWord) : Except Reject Instr :=
  match Effect.ofCode (cmdCode w) with
  | some e => .ok (Instr.ofEffect e (cmdArgs w))
  | none   => .error (.unknownEffect (cmdCode w) (cmdArgs w))

/-- The command word of an effect code and operands (R70). -/
def encodeCmd (code : BitVec 6) (a : CmdArgs) : CmdWord :=
  ⟨a.n ++ a.spd ++ code ++ a.ch.sel, a.col.list.map colourField, by simp [a.col.len]⟩

/-- The bytes `lo .. lo + k - 1` of a frame. -/
def Frame.slice (F : Frame) (lo k : Nat) : List Byte := (List.range k).map fun i => F.get (lo + i)

/-- The bytes from `lo` to the end are all zero, as padding is (R89). -/
def Frame.zeroFrom (F : Frame) (lo : Nat) : Bool := F.slice lo (64 - lo) = zeros (64 - lo)

/-- The `k` colour slots from byte `lo`, three bytes `G, R, B` each (R77, R78). -/
def Frame.slots (F : Frame) (lo k : Nat) : List Colour :=
  (List.range k).map fun i => ⟨F.get (lo + 3 * i + 1), F.get (lo + 3 * i), F.get (lo + 3 * i + 2)⟩

/-- The colour slots on the wire (R54, R87 (iv)). -/
def slotBytes (cs : List Colour) : List Byte := cs.flatMap grb

/-- R77's layout. -/
def encodeLight (f : LightFields) : Frame :=
  pad64 ([0x2A, 0x04, cidByte f.cid, cidByte f.cid, f.opcode, f.t0, f.t1] ++ slotBytes f.slots
    ++ [f.f55, f.f56, f.f57, f.f58, f.f59])

/-- R78's layout. -/
def encodePalc (f : PalcFields) : Frame :=
  pad64 ([0x22, 0x10, cidByte f.cid] ++ slotBytes f.slots ++ [f.last])

/-- R79's layout. -/
def encodePalx (cid : Channel) : Frame := pad64 [0x22, 0x11, cidByte cid]

/-- R80's layout. -/
def encodePalt (f : PaltFields) : Frame :=
  pad64 ([0x22, 0xA0, cidByte f.cid, f.opcode, f.t0, f.t1] ++ denseSuffix)

/-- R81's layout. -/
def encodeZone (f : ZoneFields) : Frame :=
  pad64 ([0x22, 0x20, cidByte f.cid, f.zone.zeroExtend 8] ++ f.template ++ f.group)

/-- R82's layout. -/
def encodeZen (cid : Channel) : Frame := pad64 [0x22, 0x03, cidByte cid, 0x08]

/-- LIGHT (R77): two equal channel ids, sixteen slots, five footer bytes, padding from byte 60. -/
def decodeLight (F : Frame) : Except Reject Instr :=
  match Channel.ofCid (F.get 2) with
  | none => .error .channelId
  | some cid =>
    if F.get 3 ≠ F.get 2 then .error .channelIdPair
    else if ¬ F.zeroFrom 60 then .error .padding
    else .ok (.light ⟨cid, F.get 4, F.get 5, F.get 6, F.slots 7 16, F.get 55, F.get 56, F.get 57, F.get 58, F.get 59⟩)

/-- PALC (R78): twenty slots and byte 63. -/
def decodePalc (F : Frame) : Except Reject Instr :=
  match Channel.ofCid (F.get 2) with
  | none     => .error .channelId
  | some cid => .ok (.palc ⟨cid, F.slots 3 20, F.get 63⟩)

/-- PALX (R79): the channel id only. -/
def decodePalx (F : Frame) : Except Reject Instr :=
  match Channel.ofCid (F.get 2) with
  | none     => .error .channelId
  | some cid => if F.zeroFrom 3 then .ok (.palx cid) else .error .padding

/-- PALT (R80): mode opcode, timing entry, the fixed suffix at bytes 6..14. -/
def decodePalt (F : Frame) : Except Reject Instr :=
  match Channel.ofCid (F.get 2) with
  | none => .error .channelId
  | some cid =>
    if F.slice 6 9 ≠ denseSuffix then .error .constant
    else if ¬ F.zeroFrom 15 then .error .padding
    else .ok (.palt ⟨cid, F.get 3, F.get 4, F.get 5⟩)

/-- ZONE (R81): zone index 0..7, template at bytes 4..16, palette group at bytes 17..22. -/
def decodeZone (F : Frame) : Except Reject Instr :=
  match Channel.ofCid (F.get 2) with
  | none => .error .channelId
  | some cid =>
    if 7 < (F.get 3).toNat then .error .zoneIndex
    else if ¬ F.zeroFrom 23 then .error .padding
    else .ok (.zone ⟨cid, (F.get 3).truncate 3, F.slice 4 13, F.slice 17 6⟩)

/-- ZEN (R82): the constant 0x08 at byte 3. -/
def decodeZen (F : Frame) : Except Reject Instr :=
  match Channel.ofCid (F.get 2) with
  | none => .error .channelId
  | some cid =>
    if F.get 3 ≠ 0x08 then .error .constant
    else if F.zeroFrom 4 then .ok (.zen cid)
    else .error .padding

/-- A frame a burst sends, by its frame opcode (R76). -/
def decodeSent (F : Frame) : Except Reject Instr :=
  if F.tag = (0x2A, 0x04) then decodeLight F
  else if F.tag = (0x22, 0x10) then decodePalc F
  else if F.tag = (0x22, 0x11) then decodePalx F
  else if F.tag = (0x22, 0xA0) then decodePalt F
  else if F.tag = (0x22, 0x20) then decodeZone F
  else if F.tag = (0x22, 0x03) then decodeZen F
  else .error .frameOpcode

/-- Handshake request `k` in R196's order. -/
def decodeRequest (k : BitVec 2) (F : Frame) : Instr :=
  match k with
  | 0 => .fwreq F
  | 1 => .ltreq F
  | 2 => .setint F
  | _ => .ltconf F

/-- A frame received during the handshake: the two tags, and nothing else (R84, R85, R89). -/
def decodeHandshake (F : Frame) : Except Reject Instr :=
  if F.tag = (0x11, 0x01) then .ok (.fwinfo F)
  else if F.tag = (0x21, 0x03) then .ok (.ltinfo F)
  else .error .handshakeTag

/-- The decoder. -/
def decode : Raw → Except Reject Instr
  | .port (.cmd w) => decodeCmd w
  | .port .init    => .ok .init
  | .port .poll    => .ok .poll
  | .emit          => .ok .emit
  | .sent F        => decodeSent F
  | .request k F   => .ok (decodeRequest k F)
  | .handshake F   => decodeHandshake F
  | .telemetry F   => .ok (.status F)

/-- A command word as raw bits of the command port. -/
def rawCmd (e : Effect) (a : CmdArgs) : Raw := .port (.cmd (encodeCmd e.code a))

/-- The encoder, from the same tables. -/
def encode : Instr → Raw
  | .setFixed a => rawCmd .fixed a
  | .setFading a => rawCmd .fading a
  | .setSpectrumWave a => rawCmd .spectrumWave a
  | .setMarquee3 a => rawCmd .marquee3 a
  | .setMarquee4 a => rawCmd .marquee4 a
  | .setMarquee5 a => rawCmd .marquee5 a
  | .setMarquee6 a => rawCmd .marquee6 a
  | .setAlternating3 a => rawCmd .alternating3 a
  | .setAlternating4 a => rawCmd .alternating4 a
  | .setAlternating5 a => rawCmd .alternating5 a
  | .setAlternating6 a => rawCmd .alternating6 a
  | .setMovingAlternating3 a => rawCmd .movingAlternating3 a
  | .setMovingAlternating4 a => rawCmd .movingAlternating4 a
  | .setMovingAlternating5 a => rawCmd .movingAlternating5 a
  | .setMovingAlternating6 a => rawCmd .movingAlternating6 a
  | .setPulse a => rawCmd .pulse a
  | .setBreathing a => rawCmd .breathing a
  | .setCandle a => rawCmd .candle a
  | .setStarryNight a => rawCmd .starryNight a
  | .setRainbowFlow a => rawCmd .rainbowFlow a
  | .setSuperRainbow a => rawCmd .superRainbow a
  | .setRainbowPulse a => rawCmd .rainbowPulse a
  | .setLoading a => rawCmd .loading a
  | .setTaiChi a => rawCmd .taiChi a
  | .setWaterCooler a => rawCmd .waterCooler a
  | .setWings a => rawCmd .wings a
  | .setSuperFixed a => rawCmd .superFixed a
  | .setSuperBreathing a => rawCmd .superBreathing a
  | .setBackwardSpectrumWave a => rawCmd .backwardSpectrumWave a
  | .setBackwardMarquee3 a => rawCmd .backwardMarquee3 a
  | .setBackwardMarquee4 a => rawCmd .backwardMarquee4 a
  | .setBackwardMarquee5 a => rawCmd .backwardMarquee5 a
  | .setBackwardMarquee6 a => rawCmd .backwardMarquee6 a
  | .setBackwardMovingAlternating3 a => rawCmd .backwardMovingAlternating3 a
  | .setBackwardMovingAlternating4 a => rawCmd .backwardMovingAlternating4 a
  | .setBackwardMovingAlternating5 a => rawCmd .backwardMovingAlternating5 a
  | .setBackwardMovingAlternating6 a => rawCmd .backwardMovingAlternating6 a
  | .setBackwardRainbowFlow a => rawCmd .backwardRainbowFlow a
  | .setBackwardSuperRainbow a => rawCmd .backwardSuperRainbow a
  | .setBackwardRainbowPulse a => rawCmd .backwardRainbowPulse a
  | .light f  => .sent (encodeLight f)
  | .palc f   => .sent (encodePalc f)
  | .palx cid => .sent (encodePalx cid)
  | .palt f   => .sent (encodePalt f)
  | .zone f   => .sent (encodeZone f)
  | .zen cid  => .sent (encodeZen cid)
  | .fwreq F  => .request 0 F
  | .ltreq F  => .request 1 F
  | .setint F => .request 2 F
  | .ltconf F => .request 3 F
  | .fwinfo F => .handshake F
  | .ltinfo F => .handshake F
  | .status F => .telemetry F
  | .init     => .port .init
  | .poll     => .port .poll
  | .emit     => .emit

/-- The raw bits of a table word of `nbits` bits (R70, R90, R93): a frame where that is the width spec/opcode_table.json gives the
first bytes of a frame row (16 or 32 bits), or a whole frame (512); such a frame comes from the handshake's read loop if it
begins with a handshake tag (R84, R85), and is one a burst sends if not (R76). Any other word is a command word
(notes/assumptions/10.md). -/
def rawOfTableWord (nbits w : Nat) : Raw :=
  if nbits = 16 ∨ nbits = 32 ∨ nbits = 512 then
    if (Frame.ofNat w).tag = (0x11, 0x01) ∨ (Frame.ofNat w).tag = (0x21, 0x03) then .handshake (Frame.ofNat w)
    else .sent (Frame.ofNat w)
  else .port (.cmd (CmdWord.ofNat w))

/-- The instruction the decoder reads from a table word; `none` where it rejects. -/
def decodeTableWord (nbits w : Nat) : Option Instr :=
  match decode (rawOfTableWord nbits w) with
  | .ok i    => some i
  | .error _ => none

end Sys2Proof
end

