-- ==== Sys2Proof/Config.lean ====
section
/-! DEFINITION. What an implementation of KX63-FE fixes: the shape of the configuration record `CFG`
(spec/00_scope.md R6), the defaults of the two fields the spec decides, and the free values. No OPEN value is chosen here.
The fixed fields of `CFG` are definitions elsewhere: `FRAME_LEN` is the type `Frame`, `NSPEED` and `NCLASS` the checks of
Machine/Checks.lean, `CHID` is
`chid`, `STATICB` is `staticB`, `DENSE_SUFFIX` is `denseSuffix`. -/

namespace Sys2Proof

/-- The names of the five footer bytes of a LIGHT frame (R77, R103). -/
inductive FooterField where
  | dir | mode | static | count | size
deriving DecidableEq, Repr

/-- `DENSE_OVERFLOW` (R6, R162): what more than twenty colours do on the dense path. -/
inductive DenseOverflow where
  | fault | truncate
deriving DecidableEq, Repr

/-- The default of `FOOTER_ORDER` (R6, decided by D4). -/
def defaultFooterOrder : List FooterField := [.dir, .mode, .static, .count, .size]

/-- The default of `DENSE_OVERFLOW` (R6, decided by D6). -/
def defaultDenseOverflow : DenseOverflow := .fault

/-- One row of `CATALOG` (R6, K9): `opcode`, `variant` and the colour bounds are bytes, `speedClass` is checked by K2. -/
structure CatalogRow where
  opcode     : Byte
  variant    : Byte
  speedClass : Nat
  minColors  : Byte
  maxColors  : Byte
deriving DecidableEq, Repr

/-- The configuration record `CFG` of R6, unchecked. `catalog` has its rows in the order of the effect codes; `timing` is
a list of speed classes, each a list of speed levels. The two fields the spec decides have its defaults and may be overridden
(R6). `rxTimeout`, `vid` and `pid` are read by no rule. -/
structure RawCfg where
  catalog       : List CatalogRow
  timing        : List (List (Byte × Byte))
  footerOrder   : List FooterField := defaultFooterOrder
  denseOverflow : DenseOverflow := defaultDenseOverflow
  wtConst       : List Byte
  wtTlo         : Nat
  wtThi         : Nat
  wtMod         : Nat
  wtD0          : Nat
  wtD1          : Nat
  stTemp        : Nat
  stRpm         : Nat
  stDuty        : Nat
  fwReq         : Frame
  ltReq         : Frame
  setInt        : Frame
  ltConf        : Frame
  fwv0          : Nat
  fwv1          : Nat
  fwv2          : Nat
  hsMaxReads    : Nat
  rxTimeout     : Nat
  vid           : Nat
  pid           : Nat
deriving DecidableEq, Repr

/-- What `RX.read()` answers: `Frame ⊕ Timeout ⊕ TransportError` (spec/20_memory.md R50). -/
inductive ReadAnswer where
  | timeout
  | transportError
  | frame (F : Frame)
deriving DecidableEq, Repr, Inhabited

/-- What `TX.write(F)` answers (R50): success or `TransportError`; or it `never` returns, which the spec leaves possible
(spec/93_implementation_defined.md U12) and R251 assumes away where liveness is claimed. -/
inductive WriteAnswer where
  | ok
  | transportError
  | never
deriving DecidableEq, Repr, Inhabited

/-- FREE VALUE (DESIGN CHOICE of form, notes/assumptions/8.md): the transport's answer to read number `k` where the state's script holds none. The
content of the receive queue is an unconstrained source (R31, U9). -/
opaque Config.readAnswer : Nat → ReadAnswer

/-- FREE VALUE (notes/assumptions/8.md): the transport's answer to write number `k` where the state's script holds none. -/
opaque Config.writeAnswer : Nat → WriteAnswer

/-- FREE VALUE (notes/assumptions/9.md): whether the frame of failed write number `k` reached the device (R214, U2). -/
opaque Config.failedWriteReached : Nat → Bool

/-- FREE VALUE (notes/assumptions/8.md): the frames the transport already holds, unread, when the block is constructed; the queue must not
be assumed empty (R202, N20 of spec/91_not_in_source.md). -/
opaque Config.bufferedAtReset : List Frame

end Sys2Proof
end

