-- ==== Sys2Proof/Machine/Checks.lean ====
section
/-! DEFINITION. The well-formedness of a configuration: K1 to K9 of spec/00_scope.md R7, the constraints column of R6, and
what decision D8 says of the catalog's Wings row, each with its name.
A configuration that fails one is refused by that name (R7, decision D29) and no machine is built on it. -/

namespace Sys2Proof

/-- The named checks. `k1` to `k8` are R7's (K9 is the types of `CatalogRow`); `wingsColour` is what decision D8 says of
the Wings row; the others are R6's constraints. -/
inductive CfgCheck where
  | k1 | k2 | k3 | k4 | k5 | k6 | k7 | k8 | wingsColour
  | timingTotal | footerPermutation | templateShape | statusOffsets | requestOpcodes | versionOffsets | readCeiling
deriving DecidableEq, Repr

/-- Every check, in the order they are reported. -/
def CfgCheck.all : List CfgCheck :=
  [.k1, .k2, .k3, .k4, .k5, .k6, .k7, .k8, .wingsColour, .timingTotal, .footerPermutation, .templateShape,
   .statusOffsets, .requestOpcodes, .versionOffsets, .readCeiling]

/-- `CATALOG[e]`; `none` where the row is missing (R29, R74). -/
def RawCfg.row (c : RawCfg) (e : Effect) : Option CatalogRow := c.catalog[e.info.code]?

/-- `TIMING[k][s]`; `none` outside the table's domain (R29, R74). -/
def RawCfg.timingOf (c : RawCfg) (k s : Nat) : Option (Byte × Byte) := c.timing[k]?.bind fun levels => levels[s]?

/-- A test of the row of one effect; false where the row is missing. -/
def RawCfg.rowTest (c : RawCfg) (e : Effect) (p : CatalogRow → Bool) : Bool := (c.row e).any p

/-- The mode opcodes 0x03 and 0x05 of the length families (K6, R108). -/
def isLengthOpcode (b : Byte) : Bool := b = 0x03 || b = 0x05

/-- K6 for one effect: a length family's opcode is 0x03 or 0x05 and its variant is the group length. -/
def rowK6 (e : Effect) (m : CatalogRow) : Bool :=
  match e.info.len with
  | some L => isLengthOpcode m.opcode && m.variant.toNat = L
  | none   => true

/-- K8 for one effect: `maxColors <= 16` on the default path, `<= 40` on the dense path, `minColors >= 1` for Wings. That Wings
takes a colour is the check `wingsColour`; nothing else is asked of its `maxColors` (R8). -/
def rowK8 (e : Effect) (m : CatalogRow) : Bool :=
  match e.info.path with
  | .default => m.maxColors.toNat ≤ 16
  | .dense   => m.maxColors.toNat ≤ 40
  | .wings   => 1 ≤ m.minColors.toNat

/-- Whether a configuration passes a check (R6, R7). `wingsColour`: Wings takes a colour, so that `cols[0]` exists (decision D8);
without it R210 would accept a Wings command of none, against R170's `n >= 1` and R178's `TooFew` for `n = 0` (DEDUCED,
notes/assumptions/5.md). `requestOpcodes` are the three inferred bytes of decision D14 (notes/assumptions/4.md). -/
def RawCfg.passes (c : RawCfg) : CfgCheck → Bool
  | .k1 => c.catalog.length = 40
  | .k2 => c.catalog.all fun m => m.speedClass < 12
  | .k3 => c.catalog.all fun m => m.minColors.toNat ≤ m.maxColors.toNat || m.maxColors.toNat = 0
  | .k4 => c.rowTest .fixed fun m => m.minColors = 1 && m.maxColors = 1
  | .k5 => c.rowTest .spectrumWave fun m => m.maxColors = 0
  | .k6 => Effect.all.all fun e => c.rowTest e (rowK6 e)
  | .k7 => c.rowTest .waterCooler fun m => m.minColors.toNat ≤ 2 && 2 ≤ m.maxColors.toNat
  | .k8 => Effect.all.all fun e => c.rowTest e (rowK8 e)
  | .wingsColour => c.rowTest .wings fun m => m.maxColors != 0
  | .timingTotal => c.timing.length = 12 && c.timing.all fun levels => levels.length = 5
  | .footerPermutation =>
      c.footerOrder.length = 5 && [FooterField.dir, .mode, .static, .count, .size].all fun f => c.footerOrder.contains f
  | .templateShape =>
      c.wtConst.length = 13 && [c.wtTlo, c.wtThi, c.wtMod, c.wtD0, c.wtD1].all (· < 13) &&
        decide [c.wtTlo, c.wtThi, c.wtMod, c.wtD0, c.wtD1].Nodup
  | .statusOffsets =>
      c.stTemp ≤ 62 && c.stRpm ≤ 62 && c.stDuty ≤ 63 &&
        decide [c.stTemp, c.stTemp + 1, c.stRpm, c.stRpm + 1, c.stDuty].Nodup
  | .requestOpcodes => c.fwReq.get 0 = 0x10 && c.ltReq.get 0 = 0x20 && c.setInt.get 0 = 0x70
  | .versionOffsets => [c.fwv0, c.fwv1, c.fwv2].all (· < 64)
  | .readCeiling => 2 ≤ c.hsMaxReads

/-- The configuration is well formed: it passes every check (R7). -/
def RawCfg.wf (c : RawCfg) : Bool := CfgCheck.all.all c.passes

/-- The first check a configuration fails, by name; `none` if it is well formed. -/
def RawCfg.failed (c : RawCfg) : Option CfgCheck := CfgCheck.all.find? fun k => ! c.passes k

/-- A well-formed configuration: the record and the proof R7 (D29) makes a precondition of every rule. -/
structure Cfg where
  raw : RawCfg
  ok  : raw.wf = true
deriving DecidableEq, Repr

/-- A configuration with the two decided fields at their defaults. -/
def RawCfg.withDecided (c : RawCfg) : RawCfg :=
  { c with footerOrder := defaultFooterOrder, denseOverflow := defaultDenseOverflow }

/-- The defaults of the decided fields pass every check that the OPEN fields pass. -/
theorem RawCfg.withDecided_wf {c : RawCfg} (h : c.wf = true) : c.withDecided.wf = true := by
  unfold RawCfg.wf at h ⊢
  rw [List.all_eq_true] at h ⊢
  intro k hk
  cases k with
  | footerPermutation => rfl
  | _ => exact h _ hk

/-- A well-formed configuration with the two decided fields at the defaults the spec gives them (R6, D4, D6). -/
def Cfg.withDecided (c : Cfg) : Cfg := ⟨c.raw.withDecided, RawCfg.withDecided_wf c.ok⟩

/-- Bring-up step (1) of spec/70_reset_and_hazards.md R243: a configuration is accepted, or refused by the name of the
check it fails (R7). -/
def Cfg.ofRaw (c : RawCfg) : Except CfgCheck Cfg :=
  if h : c.wf = true then .ok ⟨c, h⟩ else .error (c.failed.getD .k1)

end Sys2Proof
end

