-- ==== Sys2Proof/Machine/TestConfig.lean ====
section
/-! DEFINITION. CFG-T, the synthetic configuration of spec/95_test_vectors.md section 1 (decision D33). It is NOT the
device's configuration: no rule and no reset value uses it. It shows that a well-formed configuration exists, and the
tests instantiate it. -/

namespace Sys2Proof

/-- The colour bounds of CATALOG-T (95 section 1.1). -/
def cfgTBounds (e : Effect) : Byte × Byte :=
  match e.info.family with
  | .fixed | .marquee | .candle | .starryNight | .loading | .wings => (1, 1)
  | .fading => (1, 16)
  | .spectrumWave | .rainbowFlow | .superRainbow | .rainbowPulse => (0, 0)
  | .alternating | .movingAlternating | .taiChi => (1, 2)
  | .pulse | .breathing => (1, 8)
  | .waterCooler => (2, 2)
  | .superFixed | .superBreathing => (1, 40)

/-- The mode opcodes of CATALOG-T (95 section 1.1). -/
def cfgTOpcode (e : Effect) : Byte :=
  match e.info.family with
  | .marquee => 0x03
  | .alternating | .movingAlternating => 0x05
  | _ => BitVec.ofNat 8 (0x40 + e.info.code)

/-- One row of CATALOG-T (95 section 1.1). -/
def cfgTRow (e : Effect) : CatalogRow :=
  { opcode     := cfgTOpcode e
    variant    := BitVec.ofNat 8 (e.info.len.getD 0x7F)
    speedClass := e.info.code % 12
    minColors  := (cfgTBounds e).1
    maxColors  := (cfgTBounds e).2 }

/-- CFG-T (95 sections 1.1 to 1.3); the three fields no rule reads are 0. -/
def rawCfgT : RawCfg :=
  { catalog       := Effect.all.map cfgTRow
    timing        := (List.range 12).map fun k =>
                       (List.range 5).map fun s => (BitVec.ofNat 8 (0x10 * k + s), BitVec.ofNat 8 (0xA0 + k))
    footerOrder   := defaultFooterOrder
    denseOverflow := defaultDenseOverflow
    wtConst       := [0xC0, 0xC1, 0xC2, 0xC3, 0xC4, 0xC5, 0xC6, 0xC7, 0xC8, 0xC9, 0xCA, 0xCB, 0xCC]
    wtTlo := 1, wtThi := 2, wtMod := 3, wtD0 := 11, wtD1 := 12
    stTemp := 20, stRpm := 22, stDuty := 24
    fwReq  := pad64 [0x10, 0xE1]
    ltReq  := pad64 [0x20, 0xE2]
    setInt := pad64 [0x70, 0xE3, 0x55]
    ltConf := pad64 [0x70, 0xE4]
    fwv0 := 30, fwv1 := 32, fwv2 := 35
    hsMaxReads := 4
    rxTimeout := 0, vid := 0, pid := 0 }

theorem rawCfgT_wf : rawCfgT.wf = true := by decide +kernel

/-- CFG-T as a well-formed configuration. -/
def cfgT : Cfg := ⟨rawCfgT, rawCfgT_wf⟩

end Sys2Proof
end

