-- ==== Sys2Proof/Machine/State.lean ====
section
/-! DEFINITION. The state of KX63-FE as plain data: everything spec/10_state.md R20 to R33 gives the block, the parts of the
transport R31 says its rules mention, and the host's pending requests (R32, R60); its reset value (R33, R240); and the
reasons a step can stop. -/

namespace Sys2Proof.Machine

/-- The 64 byte offsets of a frame buffer (R51), as address and byte pairs in one canonical form: addresses strictly rising
and below 64, no entry equal to the 0x00 an unlisted address reads as (notes/assumptions/7.md). -/
abbrev Memory := List Host.Cell

/-- The sub-causes of `InvalidColorCount` (R210). -/
inductive CountCause where
  | tooFew | noneNeeded | tooMany
deriving DecidableEq, Repr

/-- The validation errors of `build`, each with the information it records (R210 to R213). -/
inductive EncodeError where
  | invalidColorCount (why : CountCause) (n minColors maxColors : Nat)
  | unknownEffect (code : BitVec 6)
  | invalidSpeedIndex (speedClass : Nat) (s : BitVec 3)
  | frameOverflow (p : Path) (n : Nat)
deriving DecidableEq, Repr

/-- The contents of the error register `ERR` (R25, R219). -/
inductive Err where
  | none
  | encode (e : EncodeError)
  | transportError
  | timeout
  | handshakeTimeout
deriving DecidableEq, Repr

/-- The command latch `CH, EFF, SPD, N, COL[0..39]` (R21), at the widths of the command word, because a rejected command
with a reserved code is latched too (R216). -/
structure Latch where
  ch  : Channel
  eff : BitVec 6
  spd : BitVec 3
  n   : BitVec 6
  col : ColourRegs
deriving DecidableEq, Repr

/-- `FWVER[0..2]`, three bytes (R26). -/
structure FwVer where
  v0 : Byte
  v1 : Byte
  v2 : Byte
deriving DecidableEq, Repr

/-- The output record of DEC (R27): tenths of a degree, rpm, duty. -/
structure Status where
  temp10 : Nat
  rpm    : BitVec 16
  duty   : Byte
deriving DecidableEq, Repr

/-- The state. The first group is the block's (R21 to R30), the second the transport's and the device's as the rules
mention them (R31), the third the host's requests that wait (R32, R60).

`hsSent` is the number of handshake requests already written, which R195 ("no request has been sent") and R196 imply.
`rxBuf` is the transport's receive queue; `rxArr` and `txAns` script its later answers, `rxN` and `txN` number the reads and
writes and index the free answers where a script is empty; `txStart` is the value of `txN` with which the session began. `devRx` lists the frames that reached the device, `devHavoc` says
that a burst was left incomplete and none has been completed since (R214, R246; notes/assumptions/15.md, 19.md). -/
structure State where
  cfg    : Cfg
  latch  : Latch
  fl     : List Frame
  fi     : Nat
  fwack  : Bool
  ltack  : Bool
  init   : Bool
  hsfail : Bool
  busy   : Bool
  err    : Err
  fwver  : FwVer
  status : Status
  hscnt  : Nat
  hsSent : Nat
  txf    : Memory
  rxf    : Memory
  txlog  : List Frame
  rxBuf  : List Frame
  rxArr  : List ReadAnswer
  rxN    : Nat
  txAns  : List WriteAnswer
  txN    : Nat
  txStart : Nat
  devRx  : List Frame
  devHavoc : Bool
  port   : List PortWord
deriving DecidableEq, Repr

/-- Why a step stops with a fault. -/
inductive Fault where
  /-- Raised by EMIT alone, in a state with `BUSY = 1` whose `FI` is no index of `FL`: R23's `FL[FI]` does not exist there. No
  run reaches such a state (`State.Inv` of Sys2Proof/Safety.lean excludes it). Safe: the model stops. -/
  | noCurrentFrame
deriving DecidableEq, Repr

/-- Why a step has no meaning. -/
inductive Refusal where
  /-- Raised by an arm of `exec` whose instruction has no meaning yet; this model has no such arm. Safe: the model stops. -/
  | notModelled (mnemonic : String)
deriving DecidableEq, Repr

/-- The outcome of one step of this machine. -/
abbrev Outcome := Host.Outcome State Fault Refusal

/-- A configuration, whichever it is. The instance argument only shows that a well-formed one exists. -/
opaque Config.deviceOf [Inhabited Cfg] : Cfg

/-- The configuration of the device at hand. `FOOTER_ORDER` and `DENSE_OVERFLOW` have the defaults the spec decides (R6, D4, D6).
FREE VALUE (notes/assumptions/3.md): `CATALOG`, `TIMING` and the other OPEN fields have no value in any source (R6, R8), so nothing
can be proved of them but that they are well formed. A state with another configuration is one that overrides the defaults. -/
def Config.device : Cfg := (@Config.deviceOf ⟨cfgT⟩).withDecided

/-- The machine right after reset (R33, R240): the flags, `HSCNT`, `ERR` and `TXLOG` as R33's table gives them, the tables at
their configured contents; the entries R33 leaves unspecified hold zeros (DESIGN CHOICE, notes/assumptions/6.md). -/
def State.reset : State :=
  { cfg    := Config.device
    latch  := ⟨.external, 0, 0, 0, ColourRegs.ofList []⟩
    fl     := []
    fi     := 0
    fwack  := false
    ltack  := false
    init   := false
    hsfail := false
    busy   := false
    err    := .none
    fwver  := ⟨0, 0, 0⟩
    status := ⟨0, 0, 0⟩
    hscnt  := 0
    hsSent := 0
    txf    := []
    rxf    := []
    txlog  := []
    rxBuf  := Config.bufferedAtReset
    rxArr  := []
    rxN    := 0
    txAns  := []
    txN    := 0
    txStart := 0
    devRx  := []
    devHavoc := false
    port   := [] }

end Sys2Proof.Machine
end

