-- ==== Sys2Proof/Machine/Operands.lean ====
section
/-! DEFINITION. Operand assembly (spec/30_encoding.md R87): how channel, catalog row, timing entry, colours and colour count
become the bytes of the frames: the LIGHT header, body and footer (spec/40_default_path.md R101 to R108), the Wings ramp, palette
groups and template (spec/42_wings_path.md R171 to R175). -/

namespace Sys2Proof.Machine

/-- `STATICB`, keyed by channel, decimal (R6, R106; decision D22). -/
def staticB : Channel → Byte
  | .external => 40
  | .ring     => 8
  | .logo     => 1
  | .sync     => 40

/-- The colours on the wire, in the caller's order (R75, R87 (iv)). -/
def colourBytes (cols : List Colour) : List Byte := cols.flatMap grb

/-- LIGHT bytes 0..6 (R101). -/
def lightHeader (ch : Channel) (m : CatalogRow) (t0 t1 : Byte) : List Byte :=
  [0x2A, 0x04, cidByte ch, cidByte ch, m.opcode, t0, t1]

/-- LIGHT bytes 7..54: the colours, then `3 * (16 - n)` zeros (R102). -/
def lightBody (n : Nat) (cols : List Colour) : List Byte := colourBytes cols ++ zeros (3 * (16 - n))

/-- The base of the direction byte, by family (R104). -/
def dirBase : Family → Nat
  | .marquee => 4
  | .starryNight | .movingAlternating => 1
  | _ => 0

/-- `dir`, the direction/category byte (R104). -/
def dirByte (e : Effect) : Byte := BitVec.ofNat 8 (dirBase e.info.family + if e.info.bwd then 2 else 0)

/-- `mode`, the mode-related byte, by family (R105). -/
def modeByte (e : Effect) : Byte :=
  match e.info.family with
  | .fading | .pulse | .breathing => 8
  | .taiChi | .waterCooler => 5
  | .loading => 4
  | _ => 0

/-- `count`, the color-count byte: `n`, forced to 1 for WaterCooler (R107). -/
def countByte (e : Effect) (n : Nat) : Byte := if e.info.family = .waterCooler then 1 else BitVec.ofNat 8 n

/-- `size`, the LED-size byte: the variant when the catalog opcode is 0x03 or 0x05, else 3 (R108). -/
def sizeByte (m : CatalogRow) : Byte := if isLengthOpcode m.opcode then m.variant else 3

/-- The footer byte of a name (R103 to R108). -/
def footerByte (ch : Channel) (e : Effect) (m : CatalogRow) (n : Nat) : FooterField → Byte
  | .dir    => dirByte e
  | .mode   => modeByte e
  | .static => staticB ch
  | .count  => countByte e n
  | .size   => sizeByte m

/-- LIGHT bytes 55..59, in the configured order (R77, R103; decision D4). -/
def footer (c : RawCfg) (ch : Channel) (e : Effect) (m : CatalogRow) (n : Nat) : List Byte :=
  c.footerOrder.map (footerByte ch e m n)

/-- `c2 = c1` scaled by 1/2.5 per channel, truncated: `(2*x) // 5` (R171; decision D9). -/
def scaleTwoFifths (x : Byte) : Byte := BitVec.ofNat 8 (2 * x.toNat / 5)

/-- `c3 = c2` scaled by 1/4 per channel, truncated: `x // 4` (R171; decision D9). -/
def scaleQuarter (x : Byte) : Byte := BitVec.ofNat 8 (x.toNat / 4)

/-- A colour with each channel scaled independently and the same way (R171). -/
def Colour.scale (f : Byte → Byte) (c : Colour) : Colour := ⟨f c.r, f c.g, f c.b⟩

/-- Palette group `j` of the colour `c1`: `c1`, `c2`, `c3` repeated twice, and eight zeros (R172). -/
def paletteGroup (c1 : Colour) (j : Nat) : List Byte :=
  let c2 := Colour.scale scaleTwoFifths c1
  let c3 := Colour.scale scaleQuarter c2
  match j with
  | 0 => grb c1 ++ grb c1
  | 1 => grb c2 ++ grb c2
  | 2 => grb c3 ++ grb c3
  | _ => zeros 8

/-- The modulation byte of zone `i` (R175). -/
def zoneMod (i : Nat) : Byte := if i = 3 ∨ i = 7 then 5 else 1

/-- The direction byte pair of zone `i` (R175). -/
def zoneDir (i : Nat) : Byte × Byte := if i < 4 then (0x04, 0x84) else (0x84, 0x04)

/-- The template `wt`: `WT_CONST` with its five bytes replaced (R174; decision D10). -/
def wt (c : RawCfg) (t0 t1 mod d0 d1 : Byte) : List Byte :=
  ((((c.wtConst.set c.wtTlo t0).set c.wtThi t1).set c.wtMod mod).set c.wtD0 d0).set c.wtD1 d1

end Sys2Proof.Machine
end

