-- ==== Sys2Proof/Machine/Build.lean ====
section
/-! DEFINITION. `build`: validation, dispatch and the three paths (spec/30_encoding.md R74; spec/40_default_path.md R100;
spec/41_dense_path.md R160, R162; spec/42_wings_path.md R170; spec/60_exceptions.md R210 to R213, R218). A pure function of
its operands and the configuration (spec/10_state.md R34). -/

namespace Sys2Proof.Machine

/-- `check_count` (R210). -/
def checkCount (m : CatalogRow) (n : Nat) : Except EncodeError Unit :=
  let lo := m.minColors.toNat
  let hi := m.maxColors.toNat
  if hi = 0 then
    if 0 < n then .error (.invalidColorCount .noneNeeded n lo hi) else .ok ()
  else if n < lo then .error (.invalidColorCount .tooFew n lo hi)
  else if hi < n then .error (.invalidColorCount .tooMany n lo hi)
  else .ok ()

/-- The speed-level check and the `TIMING` look-up: `InvalidSpeedIndex` for a level outside 0..4, and for a speed class the
table does not have (R74, R212). -/
def timingEntry (c : RawCfg) (m : CatalogRow) (s : BitVec 3) : Except EncodeError (Byte × Byte) :=
  if 4 < s.toNat then .error (.invalidSpeedIndex m.speedClass s)
  else
    match c.timingOf m.speedClass s.toNat with
    | some t => .ok t
    | none   => .error (.invalidSpeedIndex m.speedClass s)

/-- `check_fit` (R162, R213). -/
def checkFit (c : RawCfg) (p : Path) (n : Nat) : Except EncodeError Unit :=
  match p with
  | .default => if 16 < n then .error (.frameOverflow .default n) else .ok ()
  | .dense   => if 20 < n ∧ c.denseOverflow = .fault then .error (.frameOverflow .dense n) else .ok ()
  | .wings   => .ok ()

/-- `light_frame` (R100). -/
def lightFrame (c : RawCfg) (ch : Channel) (e : Effect) (m : CatalogRow) (n : Nat) (cols : List Colour) (t0 t1 : Byte) :
    Frame :=
  pad64 (lightHeader ch m t0 t1 ++ lightBody n cols ++ footer c ch e m n)

/-- `dense_frames` (R160): PALC, PALX, PALT. -/
def denseFrames (ch : Channel) (m : CatalogRow) (cols : List Colour) (t0 t1 : Byte) : List Frame :=
  [pad64 (first64 ([0x22, 0x10, cidByte ch] ++ colourBytes cols)),
   pad64 [0x22, 0x11, cidByte ch],
   pad64 ([0x22, 0xA0, cidByte ch, m.opcode, t0, t1] ++ denseSuffix)]

/-- The frame of zone `i` (R170, R175). -/
def zoneFrame (c : RawCfg) (ch : Channel) (c1 : Colour) (t0 t1 : Byte) (i : Nat) : Frame :=
  pad64 ([0x22, 0x20, cidByte ch, BitVec.ofNat 8 i] ++ wt c t0 t1 (zoneMod i) (zoneDir i).1 (zoneDir i).2
    ++ paletteGroup c1 (i % 4))

/-- `wings_frames` (R170): the clear pair, zones 0..7 in index order, the enable frame. -/
def wingsFrames (c : RawCfg) (ch : Channel) (c1 : Colour) (t0 t1 : Byte) : List Frame :=
  [pad64 [0x22, 0x10, cidByte ch], pad64 [0x22, 0x11, cidByte ch]]
    ++ (List.range 8).map (zoneFrame c ch c1 t0 t1)
    ++ [pad64 [0x22, 0x03, cidByte ch, 0x08]]

/-- The frames of an accepted command, by path (R74). `COL[0]` is the one colour the Wings path uses (R171; decision D8); it is a
supplied one, since `n >= 1` there under a well-formed configuration (R170). -/
def pathFrames (c : RawCfg) (ch : Channel) (e : Effect) (m : CatalogRow) (n : Nat) (col : ColourRegs) (t : Byte × Byte) :
    List Frame :=
  match e.info.path with
  | .default => [lightFrame c ch e m n (col.list.take n) t.1 t.2]
  | .dense   => denseFrames ch m (col.list.take n) t.1 t.2
  | .wings   => wingsFrames c ch (col.list.head (by intro h; have := col.len; simp [h] at this)) t.1 t.2

/-- The validation of an effect that has a catalog row, in the order of R74 and R218: colour count, speed level, fit. -/
def validate (c : RawCfg) (e : Effect) (m : CatalogRow) (n : Nat) (s : BitVec 3) : Except EncodeError (Byte × Byte) :=
  match checkCount m n with
  | .error x => .error x
  | .ok _ =>
    match timingEntry c m s with
    | .error x => .error x
    | .ok t =>
      match checkFit c e.info.path n with
      | .error x => .error x
      | .ok _    => .ok t

/-- What a command word whose field `n` is 41..63 raises. There are forty colour registers, so such a word is no command with that
many colours, which `check_count` could judge, but a reserved value, and R88 says what it does: `TooMany`, or `NoneNeeded` where
the effect takes no colour. (R210 says the same unless a Wings row has `maxColors` above 40; DEDUCED, notes/assumptions/5.md.) -/
def reservedCount (m : CatalogRow) (n : Nat) : EncodeError :=
  .invalidColorCount (if m.maxColors = 0 then .noneNeeded else .tooMany) n m.minColors.toNat m.maxColors.toNat

/-- `build` (R74) on the fields of a command word: effect code, colour count `n` (0..63; 41..63 are reserved, R88) and forty colour
registers, of which the first `n` are the colours supplied. An effect code with no effect, and an effect with no catalog row, is
`UnknownEffect` (R211). -/
def build (c : RawCfg) (ch : Channel) (eff : BitVec 6) (n : Nat) (col : ColourRegs) (s : BitVec 3) :
    Except EncodeError (List Frame) :=
  match Effect.ofCode eff with
  | none => .error (.unknownEffect eff)
  | some e =>
    match c.row e with
    | none => .error (.unknownEffect eff)
    | some m =>
      if 40 < n then .error (reservedCount m n)
      else
        match validate c e m n s with
        | .error x => .error x
        | .ok t    => .ok (pathFrames c ch e m n col t)

end Sys2Proof.Machine
end

