-- ==== Sys2Proof/Machine/Flags.lean ====
section
/-! DEFINITION. What the five flags of spec/10_state.md R24 decide: which step is enabled (R23, R189, R195) and the
operating state (spec/60_exceptions.md R222); and the numbers of the error port (R219). -/

namespace Sys2Proof.Machine

/-- `issue` and `poll` are enabled iff `INIT = 1` and `BUSY = 0` and `HSFAIL = 0` (R23, R189). -/
def State.ready (s : State) : Bool := s.init && !s.busy && !s.hsfail

/-- The handshake has neither succeeded nor failed: `INIT = 0`, `HSFAIL = 0` (UNINIT of R222). -/
def State.uninit (s : State) : Bool := !s.init && !s.hsfail

/-- `INIT` is enabled iff `INIT = 0`, `HSFAIL = 0`, `HSCNT = 0` and no request has been sent (R195). -/
def State.initEnabled (s : State) : Bool := s.uninit && s.hscnt = 0 && s.hsSent = 0

/-- The handshake has begun and not ended: at least one request is written (R195, "while it runs"). -/
def State.hsRunning (s : State) : Bool := s.uninit && 0 < s.hsSent

/-- The read loop of R198 is about to read: all four requests are written, the terminal test and the ceiling test have both
let it go on. -/
def State.hsReading (s : State) : Bool :=
  s.uninit && s.hsSent = 4 && !(s.fwack && s.ltack) && !(s.hscnt = s.cfg.raw.hsMaxReads)

/-- The operating states of R222. -/
inductive OpState where
  | uninit | ready | burst | dead
deriving DecidableEq, Repr

/-- The operating state, told by the flags (R222). `HSFAIL = 1` is DEAD whatever the other flags are
(notes/assumptions/17.md). -/
def State.opState (s : State) : OpState :=
  if s.hsfail then .dead
  else if s.init then (if s.busy then .burst else .ready)
  else .uninit

/-- Which waiting requests may be served: a command and `POLL` when ready, `INIT` as R195 says. A request that is not
enabled is held (R60, D19). -/
def State.enabled (s : State) : PortWord → Bool
  | .cmd _ => s.ready
  | .init  => s.initEnabled
  | .poll  => s.ready

/-- The numbers on the error port (R219). -/
def Err.code : Err → Nat
  | .none => 0
  | .encode (.invalidColorCount .tooFew _ _ _)     => 1
  | .encode (.invalidColorCount .noneNeeded _ _ _) => 2
  | .encode (.invalidColorCount .tooMany _ _ _)    => 3
  | .encode (.unknownEffect _)                     => 4
  | .encode (.invalidSpeedIndex _ _)               => 5
  | .encode (.frameOverflow _ _)                   => 6
  | .transportError   => 7
  | .timeout          => 8
  | .handshakeTimeout => 9

end Sys2Proof.Machine
end

