-- ==== Sys2Proof/Machine/Ops.lean ====
section
/-! DEFINITION. The named operations the meanings share: the frame buffers (spec/20_memory.md R51, R57), the transport's write
and read (R50, R31), the one entry of an error (spec/60_exceptions.md R216), `issue` and `emit` (spec/10_state.md R23,
R214), DEC and `poll` (spec/43_status_decoder.md R186, R189), and the handshake (spec/44_handshake.md R196 to R204). -/

namespace Sys2Proof.Machine

/-! ### The frame buffers -/

/-- The byte at offset `a` of a frame buffer; an unlisted offset reads 0x00 (notes/assumptions/7.md). `MemRead(a, 1)` of R11. -/
def memRead : Memory → Nat → Byte
  | [], _ => 0
  | (b, x) :: rest, a => if a = b then x else memRead rest a

/-- `MemRead(a, 2)`: two bytes, little-endian (R11, R53). -/
def memRead16 (m : Memory) (a : Nat) : BitVec 16 := le16 (memRead m a) (memRead m (a + 1))

/-- `MemWrite(a, 1, v)` (R11), keeping the canonical form: a zero byte is not listed. -/
def memWrite : Memory → Nat → Byte → Memory
  | [], a, v => if v = 0 then [] else [(a, v)]
  | (b, x) :: rest, a, v =>
    if a < b then (if v = 0 then (b, x) :: rest else (a, v) :: (b, x) :: rest)
    else if a = b then (if v = 0 then rest else (a, v) :: rest)
    else (b, x) :: memWrite rest a v

/-- The bytes of a list stored from offset `a` on. -/
def memStore (m : Memory) (a : Nat) : List Byte → Memory
  | []      => m
  | v :: vs => memStore (memWrite m a v) (a + 1) vs

/-- A frame buffer loaded with a whole frame: the unit the transport takes and returns (R57). -/
def memLoad (m : Memory) (F : Frame) : Memory := memStore m 0 F.bytes

/-- The canonical form from offset `lo` on: offsets strictly rising and below 64, no listed zero. -/
def Memory.wfFrom : Nat → Memory → Bool
  | _, [] => true
  | lo, (a, v) :: rest => lo ≤ a && a < 64 && v ≠ 0 && Memory.wfFrom (a + 1) rest

/-- The canonical form of a frame buffer. -/
def Memory.wf (m : Memory) : Bool := Memory.wfFrom 0 m

/-! ### Errors -/

/-- Error entry (R216) and its record in `ERR` (R25): the one way an operation's error enters the state. There is no vector, no
handler and no saved state; there is no return (R217). -/
def raise (e : Err) (s : State) : State := { s with err := e }

/-! ### The transport (R50) -/

/-- The transport's answer to the next `TX.write`: the script's, or a free value where it is empty (notes/assumptions/8.md). -/
def State.writeAnswer (s : State) : WriteAnswer :=
  match s.txAns with
  | a :: _ => a
  | []     => Config.writeAnswer s.txN

/-- A write of `F` that returned success: the frame is in `TXF`, appended to `TXLOG` and taken by the device (R31, R57). `TXF` is
defined only during the emit (R30, R33); that it keeps the frame until the next write is the model's choice (DESIGN CHOICE,
notes/assumptions/20.md). -/
def wrote (F : Frame) (s : State) : State :=
  { s with txf := memLoad s.txf F, txlog := s.txlog ++ [F], devRx := s.devRx ++ [F],
           txAns := s.txAns.tail, txN := s.txN + 1 }

/-- A write of `F` that failed: `TXF` holds and keeps the frame (notes/assumptions/9.md, 20.md), `TXLOG` does not record it, and
whether it reached the device is a free value (R214, U2; decision D21). -/
def writeFailed (F : Frame) (s : State) : State :=
  { s with txf := memLoad s.txf F,
           devRx := s.devRx ++ (if Config.failedWriteReached s.txN then [F] else []),
           txAns := s.txAns.tail, txN := s.txN + 1 }

/-- The transport's answer to the next `RX.read()`: a frame of the receive queue; where the queue is empty, the script's
next answer, or a free value where there is none (R31, R50, U9; notes/assumptions/8.md). -/
def State.readAnswer (s : State) : ReadAnswer :=
  match s.rxBuf with
  | F :: _ => .frame F
  | [] =>
    match s.rxArr with
    | a :: _ => a
    | []     => Config.readAnswer s.rxN

/-- `RX.read()` consumes what it returns (R57). -/
def readDone (s : State) : State :=
  match s.rxBuf with
  | _ :: q => { s with rxBuf := q, rxN := s.rxN + 1 }
  | []     => { s with rxArr := s.rxArr.tail, rxN := s.rxN + 1 }

/-! ### ENC: issue and emit -/

/-- `COL[0..N-1]` written, the other registers left (R21, R23; notes/assumptions/12.md). -/
def ColourRegs.load (old new : ColourRegs) (n : Nat) : ColourRegs :=
  ⟨new.list.take n ++ old.list.drop n, by
    have h1 := old.len; have h2 := new.len; simp; omega⟩

/-- The command latch written by `issue` (R21, R23). -/
def latchWrite (eff : BitVec 6) (a : CmdArgs) (s : State) : State :=
  { s with latch := ⟨a.ch, eff, a.spd, a.n, ColourRegs.load s.latch.col a.col a.n.toNat⟩ }

/-- The sequencer loaded with an accepted command's frames (R23). -/
def loadBurst (fl : List Frame) (s : State) : State := { s with err := .none, fl := fl, fi := 0, busy := true }

/-- `build` on the operands the latch holds (R21, R23). -/
def buildLatch (c : RawCfg) (l : Latch) : Except EncodeError (List Frame) := build c l.ch l.eff l.n.toNat l.col l.spd

/-- `issue` (R23, R216), for any effect code of the command word: the latch is written, and `build` reads it. A command that is
not enabled is held (R60). -/
def issueCode (eff : BitVec 6) (a : CmdArgs) (s : State) : State :=
  if s.ready then
    let s1 := latchWrite eff a s
    match buildLatch s1.cfg.raw s1.latch with
    | .error x => raise (.encode x) s1
    | .ok fl   => loadBurst fl s1
  else s

/-- `issue` of an effect. -/
def issue (e : Effect) (a : CmdArgs) (s : State) : State := issueCode e.code a s

/-- `FI <- FI + 1`, and `BUSY <- 0` after the last frame (R23); a completed burst ends the havoc an incomplete one left on the
device's side (R214, U1). -/
def advance (s : State) : State :=
  if s.fi + 1 = s.fl.length then { s with fi := s.fi + 1, busy := false, devHavoc := false }
  else { s with fi := s.fi + 1 }

/-- The burst abandoned after a failed write: `ERR <- TransportError`, `BUSY <- 0`, the later frames never sent, the device in an
unknown state (R214, R246; decision D21). -/
def abandon (s : State) : State := raise .transportError { s with busy := false, devHavoc := true }

/-- The `emit` of frame `F` (R23, R214). A write that never returns leaves the block where it is (U12), and
its frame is not put among those that reached the device (DESIGN CHOICE, notes/assumptions/11.md). -/
def emitFrame (F : Frame) (s : State) : State :=
  match s.writeAnswer with
  | .ok             => advance (wrote F s)
  | .transportError => abandon (writeFailed F s)
  | .never          => s

/-- The frame `FL[FI]` a burst sends next, if `BUSY = 1` (R23, R30). -/
def State.currentFrame (s : State) : Option Frame := if s.busy then s.fl[s.fi]? else none

/-- The `emit` of a frame of a given kind: taken when that frame is the one the burst sends next, and otherwise not enabled
(R58: no frame reaches the transport out of its burst). -/
def sendFrame (F : Frame) (s : State) : State := if s.currentFrame = some F then emitFrame F s else s

/-! ### DEC and poll -/

/-- `decode` of the frame in `RXF` (R186). -/
def decodeStatus (c : RawCfg) (m : Memory) : Status :=
  { temp10 := 10 * (memRead m c.stTemp).toNat + (memRead m (c.stTemp + 1)).toNat
    rpm    := memRead16 m c.stRpm
    duty   := memRead m c.stDuty }

/-- A received frame in `RXF` (R30). -/
def receive (F : Frame) (s : State) : State := { s with rxf := memLoad s.rxf F }

/-- `RXF <- F; STATUS <- decode(F); ERR <- None` (R189). -/
def takeStatus (F : Frame) (s : State) : State :=
  let s1 := receive F s
  raise .none { s1 with status := decodeStatus s1.cfg.raw s1.rxf }

/-- `poll` after its read (R189). -/
def pollAnswer (r : ReadAnswer) (s : State) : State :=
  match r with
  | .timeout        => raise .timeout s
  | .transportError => raise .transportError s
  | .frame F        => takeStatus F s

/-! ### HS -/

/-- Failure of the handshake: `HSFAIL <- 1`, `ERR` says why, `INIT` stays 0 (R203, R204). -/
def hsFail (e : Err) (s : State) : State := raise e { s with hsfail := true }

/-- Success: `INIT <- 1`, `ERR <- None`, the transport's buffered input is discarded (R201, R202; decision D28;
notes/assumptions/16.md). -/
def hsSuccess (s : State) : State := raise .none { s with init := true, rxBuf := [] }

/-- `HS_REQ[k]` (R83). -/
def hsReq (c : RawCfg) (k : Nat) : Frame :=
  match k with
  | 0 => c.fwReq
  | 1 => c.ltReq
  | 2 => c.setInt
  | _ => c.ltConf

/-- The write of a request frame (R196, R204). A write that never returns leaves the block where it is (U12), and its frame is not put
among those that reached the device (DESIGN CHOICE, notes/assumptions/11.md). -/
def requestFrame (F : Frame) (s : State) : State :=
  match s.writeAnswer with
  | .ok             => let s1 := wrote F s; { s1 with hsSent := s1.hsSent + 1 }
  | .transportError => hsFail .transportError (writeFailed F s)
  | .never          => s

/-- Request `k`, the frame being `F`: taken when it is the handshake's turn to write `HS_REQ[k]` and `F` is that frame, and
otherwise not enabled (R195, R196). -/
def sendRequest (k : Nat) (F : Frame) (s : State) : State :=
  if s.uninit && s.hsSent = k && F = hsReq s.cfg.raw k then requestFrame F s else s

/-- A frame the read loop has read: `RXF <- r`, then the two tags (R198 to R200). -/
def hsFrame (F : Frame) (s : State) : State :=
  let s1 := receive F s
  let c := s1.cfg.raw
  if memRead s1.rxf 0 = 0x11 ∧ memRead s1.rxf 1 = 0x01 then
    { s1 with fwver := ⟨memRead s1.rxf c.fwv0, memRead s1.rxf c.fwv1, memRead s1.rxf c.fwv2⟩, fwack := true }
  else if memRead s1.rxf 0 = 0x21 ∧ memRead s1.rxf 1 = 0x03 then { s1 with ltack := true }
  else s1

/-- One read attempt with its answer: it counts whatever the answer is (R198; decision D15). -/
def hsAnswer (r : ReadAnswer) (s : State) : State :=
  let s1 := { s with hscnt := s.hscnt + 1 }
  match r with
  | .timeout        => s1
  | .transportError => hsFail .transportError s1
  | .frame F        => hsFrame F s1

/-- A frame that the handshake's read returns: taken when the read loop is about to read, and otherwise not enabled. It counts as
a read attempt (R198). The frame is the operand of the instruction: nothing is taken from the receive queue or the script of the
state and `rxN` stays, so the next read answers what it would have answered (DESIGN CHOICE, notes/assumptions/1.md). -/
def hsReceive (F : Frame) (s : State) : State := if s.hsReading then hsAnswer (.frame F) s else s

/-- One move of a handshake that has not ended: the next request (R196), or one turn of the loop of R198 with its two tests first
(R201, R203). -/
def hsStep (s : State) : State :=
  if s.hsSent < 4 then requestFrame (hsReq s.cfg.raw s.hsSent) s
  else if s.fwack && s.ltack then hsSuccess s
  else if s.hscnt = s.cfg.raw.hsMaxReads then hsFail .handshakeTimeout s
  else hsAnswer s.readAnswer (readDone s)

/-- Up to `k` moves of the handshake, stopping when it has ended. -/
def hsRun : Nat → State → State
  | 0, s => s
  | k + 1, s => if s.uninit then hsRun k (hsStep s) else s

/-- The moves a whole handshake can take: four requests, `HS_MAX_READS` reads, and the turn that ends it (R206). -/
def hsMoves (c : RawCfg) : Nat := 4 + c.hsMaxReads + 1

/-! ### The host's requests -/

/-- The first request of a list that may be served, and the others. A request that is not enabled stays where it is: it is
held, not refused and not dropped (R60, D19). -/
def firstEnabled (p : PortWord → Bool) : List PortWord → Option (PortWord × List PortWord)
  | []      => none
  | q :: qs =>
    if p q then some (q, qs)
    else match firstEnabled p qs with
      | some (r, rs) => some (r, q :: rs)
      | none         => none

/-- The request served next, and the state without it. -/
def fetch (s : State) : Option (PortWord × State) :=
  match firstEnabled s.enabled s.port with
  | some (q, qs) => some (q, { s with port := qs })
  | none         => none

/-- What a rejected word does: a command word with a reserved effect code is issued and raises `UnknownEffect` (R88, R211); no
other word of the port is rejected by the decoder (notes/assumptions/14.md). -/
def reject (r : Reject) (s : State) : State :=
  match r with
  | .unknownEffect code a => issueCode code a s
  | _ => s

/-! ### Sessions -/

/-- The flags of a session that accepts commands: the handshake has succeeded and no burst is in progress. -/
def State.accepting (s : State) : State :=
  { s with fwack := true, ltack := true, init := true, hsfail := false, busy := false, hsSent := 4 }

/-- The flags of a session whose handshake has written its four requests and read nothing yet. -/
def State.awaitingReads (s : State) : State :=
  { s with fwack := false, ltack := false, init := false, hsfail := false, busy := false, hsSent := 4, hscnt := 0 }

/-- The construction of the block for another session (R240 (ii), (iii)): the block's state as R33's table has it, the tables
untouched; the device and the waiting requests are not the block's and go on. A burst that disposal cut short leaves the device in
an unknown state (R242, R246).

The spec does not say what a reopened transport holds and answers. It is taken as the arguments: the frames it already holds, and
scripts of its later answers to reads and to writes, any of which may be empty; past them free values answer. A write of the old
session that never returned (U12) is over: its number is passed, so the new session's first write has an answer of its own (DESIGN
CHOICE, notes/assumptions/15.md). Whether the frame of that write had reached the device when the session was disposed (R242), no
rule says; it is kept out of `devRx` (DESIGN CHOICE, notes/assumptions/11.md, 15.md). Opening and closing the transport
are the host's and no step of the block (R50). -/
def newSession (s : State) (rxBuf : List Frame) (rxArr : List ReadAnswer) (txAns : List WriteAnswer) : State :=
  { State.reset with
    cfg := s.cfg, rxBuf := rxBuf, rxArr := rxArr, rxN := s.rxN, txAns := txAns, txN := s.txN + 1, txStart := s.txN + 1,
    devRx := s.devRx, devHavoc := s.devHavoc || s.busy, port := s.port }

end Sys2Proof.Machine
end

