-- ==== Sys2Proof/Machine/DefaultPath.lean ====
section
/-! DEFINITION. The 37 commands of the default path (spec/40_default_path.md R110 to R146). Each is `issue` (spec/10_state.md
R23) of its effect: validation, then one LIGHT frame (R100), whose footer bytes follow from the effect's family and direction
(R104 to R108). The frame reaches the transport by EMIT. -/

namespace Sys2Proof.Machine

/-- `SET Fixed` (R110): effect code 0. -/
def execSetFixed (a : CmdArgs) (s : State) : Outcome := .next (issue .fixed a s)

/-- `SET Fading` (R111): effect code 1. -/
def execSetFading (a : CmdArgs) (s : State) : Outcome := .next (issue .fading a s)

/-- `SET SpectrumWave` (R112): effect code 2. -/
def execSetSpectrumWave (a : CmdArgs) (s : State) : Outcome := .next (issue .spectrumWave a s)

/-- `SET Marquee3` (R113): effect code 3. -/
def execSetMarquee3 (a : CmdArgs) (s : State) : Outcome := .next (issue .marquee3 a s)

/-- `SET Marquee4` (R114): effect code 4. -/
def execSetMarquee4 (a : CmdArgs) (s : State) : Outcome := .next (issue .marquee4 a s)

/-- `SET Marquee5` (R115): effect code 5. -/
def execSetMarquee5 (a : CmdArgs) (s : State) : Outcome := .next (issue .marquee5 a s)

/-- `SET Marquee6` (R116): effect code 6. -/
def execSetMarquee6 (a : CmdArgs) (s : State) : Outcome := .next (issue .marquee6 a s)

/-- `SET Alternating3` (R117): effect code 7. -/
def execSetAlternating3 (a : CmdArgs) (s : State) : Outcome := .next (issue .alternating3 a s)

/-- `SET Alternating4` (R118): effect code 8. -/
def execSetAlternating4 (a : CmdArgs) (s : State) : Outcome := .next (issue .alternating4 a s)

/-- `SET Alternating5` (R119): effect code 9. -/
def execSetAlternating5 (a : CmdArgs) (s : State) : Outcome := .next (issue .alternating5 a s)

/-- `SET Alternating6` (R120): effect code 10. -/
def execSetAlternating6 (a : CmdArgs) (s : State) : Outcome := .next (issue .alternating6 a s)

/-- `SET MovingAlternating3` (R121): effect code 11. -/
def execSetMovingAlternating3 (a : CmdArgs) (s : State) : Outcome := .next (issue .movingAlternating3 a s)

/-- `SET MovingAlternating4` (R122): effect code 12. -/
def execSetMovingAlternating4 (a : CmdArgs) (s : State) : Outcome := .next (issue .movingAlternating4 a s)

/-- `SET MovingAlternating5` (R123): effect code 13. -/
def execSetMovingAlternating5 (a : CmdArgs) (s : State) : Outcome := .next (issue .movingAlternating5 a s)

/-- `SET MovingAlternating6` (R124): effect code 14. -/
def execSetMovingAlternating6 (a : CmdArgs) (s : State) : Outcome := .next (issue .movingAlternating6 a s)

/-- `SET Pulse` (R125): effect code 15. -/
def execSetPulse (a : CmdArgs) (s : State) : Outcome := .next (issue .pulse a s)

/-- `SET Breathing` (R126): effect code 16. -/
def execSetBreathing (a : CmdArgs) (s : State) : Outcome := .next (issue .breathing a s)

/-- `SET Candle` (R127): effect code 17. -/
def execSetCandle (a : CmdArgs) (s : State) : Outcome := .next (issue .candle a s)

/-- `SET StarryNight` (R128): effect code 18. -/
def execSetStarryNight (a : CmdArgs) (s : State) : Outcome := .next (issue .starryNight a s)

/-- `SET RainbowFlow` (R129): effect code 19. -/
def execSetRainbowFlow (a : CmdArgs) (s : State) : Outcome := .next (issue .rainbowFlow a s)

/-- `SET SuperRainbow` (R130): effect code 20. -/
def execSetSuperRainbow (a : CmdArgs) (s : State) : Outcome := .next (issue .superRainbow a s)

/-- `SET RainbowPulse` (R131): effect code 21. -/
def execSetRainbowPulse (a : CmdArgs) (s : State) : Outcome := .next (issue .rainbowPulse a s)

/-- `SET Loading` (R132): effect code 22. -/
def execSetLoading (a : CmdArgs) (s : State) : Outcome := .next (issue .loading a s)

/-- `SET TaiChi` (R133): effect code 23. -/
def execSetTaiChi (a : CmdArgs) (s : State) : Outcome := .next (issue .taiChi a s)

/-- `SET WaterCooler` (R134): effect code 24. -/
def execSetWaterCooler (a : CmdArgs) (s : State) : Outcome := .next (issue .waterCooler a s)

/-- `SET BackwardSpectrumWave` (R135): effect code 28. -/
def execSetBackwardSpectrumWave (a : CmdArgs) (s : State) : Outcome := .next (issue .backwardSpectrumWave a s)

/-- `SET BackwardMarquee3` (R136): effect code 29. -/
def execSetBackwardMarquee3 (a : CmdArgs) (s : State) : Outcome := .next (issue .backwardMarquee3 a s)

/-- `SET BackwardMarquee4` (R137): effect code 30. -/
def execSetBackwardMarquee4 (a : CmdArgs) (s : State) : Outcome := .next (issue .backwardMarquee4 a s)

/-- `SET BackwardMarquee5` (R138): effect code 31. -/
def execSetBackwardMarquee5 (a : CmdArgs) (s : State) : Outcome := .next (issue .backwardMarquee5 a s)

/-- `SET BackwardMarquee6` (R139): effect code 32. -/
def execSetBackwardMarquee6 (a : CmdArgs) (s : State) : Outcome := .next (issue .backwardMarquee6 a s)

/-- `SET BackwardMovingAlternating3` (R140): effect code 33. -/
def execSetBackwardMovingAlternating3 (a : CmdArgs) (s : State) : Outcome := .next (issue .backwardMovingAlternating3 a s)

/-- `SET BackwardMovingAlternating4` (R141): effect code 34. -/
def execSetBackwardMovingAlternating4 (a : CmdArgs) (s : State) : Outcome := .next (issue .backwardMovingAlternating4 a s)

/-- `SET BackwardMovingAlternating5` (R142): effect code 35. -/
def execSetBackwardMovingAlternating5 (a : CmdArgs) (s : State) : Outcome := .next (issue .backwardMovingAlternating5 a s)

/-- `SET BackwardMovingAlternating6` (R143): effect code 36. -/
def execSetBackwardMovingAlternating6 (a : CmdArgs) (s : State) : Outcome := .next (issue .backwardMovingAlternating6 a s)

/-- `SET BackwardRainbowFlow` (R144): effect code 37. -/
def execSetBackwardRainbowFlow (a : CmdArgs) (s : State) : Outcome := .next (issue .backwardRainbowFlow a s)

/-- `SET BackwardSuperRainbow` (R145): effect code 38. -/
def execSetBackwardSuperRainbow (a : CmdArgs) (s : State) : Outcome := .next (issue .backwardSuperRainbow a s)

/-- `SET BackwardRainbowPulse` (R146): effect code 39. -/
def execSetBackwardRainbowPulse (a : CmdArgs) (s : State) : Outcome := .next (issue .backwardRainbowPulse a s)

end Sys2Proof.Machine
end

