-- ==== Sys2Proof/Machine/DensePath.lean ====
section
/-! DEFINITION. The two commands of the dense-palette path (spec/41_dense_path.md R166, R167): `issue` (spec/10_state.md R23)
of the effect, which loads the three frames PALC, PALX, PALT of R160. -/

namespace Sys2Proof.Machine

/-- `SET SuperFixed` (R166): effect code 26. -/
def execSetSuperFixed (a : CmdArgs) (s : State) : Outcome := .next (issue .superFixed a s)

/-- `SET SuperBreathing` (R167): effect code 27. -/
def execSetSuperBreathing (a : CmdArgs) (s : State) : Outcome := .next (issue .superBreathing a s)

end Sys2Proof.Machine
end

