-- ==== Sys2Proof/Machine/Frames.lean ====
section
/-! DEFINITION. The thirteen frame kinds (spec/30_encoding.md R76). An outbound kind of a burst (R77 to R82) is the `emit` step
(spec/10_state.md R23) of a frame of that kind; a handshake request (R83) is the write of that request
(spec/44_handshake.md R196); an inbound kind is what receiving it does: FWINFO and LTINFO in the read loop of the handshake
(R198 to R200), STATUS in DEC (spec/43_status_decoder.md R186, R189). A frame that is not due is not enabled, and nothing changes
(spec/20_memory.md R58, R60). -/

namespace Sys2Proof.Machine

/-- LIGHT (R77): the frame of a default-path burst is sent. -/
def execLight (f : LightFields) (s : State) : Outcome := .next (sendFrame (encodeLight f) s)

/-- PALC (R78): the colour frame, or the first frame of the Wings clear pair (R173), is sent. -/
def execPalc (f : PalcFields) (s : State) : Outcome := .next (sendFrame (encodePalc f) s)

/-- PALX (R79): the clear/commit frame is sent. -/
def execPalx (cid : Channel) (s : State) : Outcome := .next (sendFrame (encodePalx cid) s)

/-- PALT (R80): the timing frame is sent. -/
def execPalt (f : PaltFields) (s : State) : Outcome := .next (sendFrame (encodePalt f) s)

/-- ZONE (R81): a per-zone animation frame is sent. -/
def execZone (f : ZoneFields) (s : State) : Outcome := .next (sendFrame (encodeZone f) s)

/-- ZEN (R82): the "enable zone-animation mode" frame is sent. -/
def execZen (cid : Channel) (s : State) : Outcome := .next (sendFrame (encodeZen cid) s)

/-- FWREQ (R83, R196): handshake request 0 is written. -/
def execFwreq (F : Frame) (s : State) : Outcome := .next (sendRequest 0 F s)

/-- LTREQ (R83, R196): handshake request 1 is written. -/
def execLtreq (F : Frame) (s : State) : Outcome := .next (sendRequest 1 F s)

/-- SETINT (R83, R196): handshake request 2 is written. -/
def execSetint (F : Frame) (s : State) : Outcome := .next (sendRequest 2 F s)

/-- LTCONF (R83, R196): handshake request 3 is written. -/
def execLtconf (F : Frame) (s : State) : Outcome := .next (sendRequest 3 F s)

/-- FWINFO (R84, R199): the firmware acknowledgement is received. -/
def execFwinfo (F : Frame) (s : State) : Outcome := .next (hsReceive F s)

/-- LTINFO (R85, R200): the lighting acknowledgement is received. -/
def execLtinfo (F : Frame) (s : State) : Outcome := .next (hsReceive F s)

/-- STATUS (R86, R186, R189): DEC decodes the received frame, whatever it holds (R188). The frame is the operand: nothing
is taken from the receive queue or the script of the state and `rxN` stays (DESIGN CHOICE, notes/assumptions/1.md). -/
def execStatus (F : Frame) (s : State) : Outcome := .next (if s.ready then takeStatus F s else s)

end Sys2Proof.Machine
end

