-- ==== Sys2Proof/Machine/Session.lean ====
section
/-! DEFINITION. The three operations (spec/30_encoding.md R93): `INIT` (spec/44_handshake.md R195), `POLL`
(spec/43_status_decoder.md R189) and `EMIT` (spec/10_state.md R23). -/

namespace Sys2Proof.Machine

/-- `INIT` (R195 to R204): the whole handshake, four requests and then reads until success or failure, once, directly after
reset; otherwise it is not enabled and is held. A write that never returns (U12) leaves the handshake where it stands, and the
machine's later steps go on with it. -/
def execInit (s : State) : Outcome := .next (if s.initEnabled then hsRun (hsMoves s.cfg.raw) s else s)

/-- `POLL` (R189): one read, then DEC; held where it is not enabled. -/
def execPoll (s : State) : Outcome := .next (if s.ready then pollAnswer s.readAnswer (readDone s) else s)

/-- `EMIT` (R23, R214): frame `FL[FI]` of the burst is sent; not enabled while `BUSY = 0`. With `BUSY = 1` and `FI` outside `FL`
there is no frame to send (notes/assumptions/13.md). -/
def execEmit (s : State) : Outcome :=
  if s.busy then
    match s.fl[s.fi]? with
    | some F => .next (emitFrame F s)
    | none   => .fault .noCurrentFrame
  else .next s

end Sys2Proof.Machine
end

