-- ==== Sys2Proof/Machine/WingsPath.lean ====
section
/-! DEFINITION. The command of the per-zone animated path (spec/42_wings_path.md R178): `issue` (spec/10_state.md R23) of Wings,
which loads the eleven frames of R170. -/

namespace Sys2Proof.Machine

/-- `SET Wings` (R178): effect code 25. -/
def execSetWings (a : CmdArgs) (s : State) : Outcome := .next (issue .wings a s)

end Sys2Proof.Machine
end

