-- ==== Sys2Proof/Machine/Dispatch.lean ====
section
/-! DEFINITION. One arm per instruction. -/

namespace Sys2Proof.Machine

/-- The meaning of an instruction. -/
def exec (i : Instr) (s : State) : Host.Outcome State Fault Refusal :=
  match i with
  | .setFixed a => Sys2Proof.Machine.execSetFixed a s
  | .setFading a => Sys2Proof.Machine.execSetFading a s
  | .setSpectrumWave a => Sys2Proof.Machine.execSetSpectrumWave a s
  | .setMarquee3 a => Sys2Proof.Machine.execSetMarquee3 a s
  | .setMarquee4 a => Sys2Proof.Machine.execSetMarquee4 a s
  | .setMarquee5 a => Sys2Proof.Machine.execSetMarquee5 a s
  | .setMarquee6 a => Sys2Proof.Machine.execSetMarquee6 a s
  | .setAlternating3 a => Sys2Proof.Machine.execSetAlternating3 a s
  | .setAlternating4 a => Sys2Proof.Machine.execSetAlternating4 a s
  | .setAlternating5 a => Sys2Proof.Machine.execSetAlternating5 a s
  | .setAlternating6 a => Sys2Proof.Machine.execSetAlternating6 a s
  | .setMovingAlternating3 a => Sys2Proof.Machine.execSetMovingAlternating3 a s
  | .setMovingAlternating4 a => Sys2Proof.Machine.execSetMovingAlternating4 a s
  | .setMovingAlternating5 a => Sys2Proof.Machine.execSetMovingAlternating5 a s
  | .setMovingAlternating6 a => Sys2Proof.Machine.execSetMovingAlternating6 a s
  | .setPulse a => Sys2Proof.Machine.execSetPulse a s
  | .setBreathing a => Sys2Proof.Machine.execSetBreathing a s
  | .setCandle a => Sys2Proof.Machine.execSetCandle a s
  | .setStarryNight a => Sys2Proof.Machine.execSetStarryNight a s
  | .setRainbowFlow a => Sys2Proof.Machine.execSetRainbowFlow a s
  | .setSuperRainbow a => Sys2Proof.Machine.execSetSuperRainbow a s
  | .setRainbowPulse a => Sys2Proof.Machine.execSetRainbowPulse a s
  | .setLoading a => Sys2Proof.Machine.execSetLoading a s
  | .setTaiChi a => Sys2Proof.Machine.execSetTaiChi a s
  | .setWaterCooler a => Sys2Proof.Machine.execSetWaterCooler a s
  | .setWings a => Sys2Proof.Machine.execSetWings a s
  | .setSuperFixed a => Sys2Proof.Machine.execSetSuperFixed a s
  | .setSuperBreathing a => Sys2Proof.Machine.execSetSuperBreathing a s
  | .setBackwardSpectrumWave a => Sys2Proof.Machine.execSetBackwardSpectrumWave a s
  | .setBackwardMarquee3 a => Sys2Proof.Machine.execSetBackwardMarquee3 a s
  | .setBackwardMarquee4 a => Sys2Proof.Machine.execSetBackwardMarquee4 a s
  | .setBackwardMarquee5 a => Sys2Proof.Machine.execSetBackwardMarquee5 a s
  | .setBackwardMarquee6 a => Sys2Proof.Machine.execSetBackwardMarquee6 a s
  | .setBackwardMovingAlternating3 a => Sys2Proof.Machine.execSetBackwardMovingAlternating3 a s
  | .setBackwardMovingAlternating4 a => Sys2Proof.Machine.execSetBackwardMovingAlternating4 a s
  | .setBackwardMovingAlternating5 a => Sys2Proof.Machine.execSetBackwardMovingAlternating5 a s
  | .setBackwardMovingAlternating6 a => Sys2Proof.Machine.execSetBackwardMovingAlternating6 a s
  | .setBackwardRainbowFlow a => Sys2Proof.Machine.execSetBackwardRainbowFlow a s
  | .setBackwardSuperRainbow a => Sys2Proof.Machine.execSetBackwardSuperRainbow a s
  | .setBackwardRainbowPulse a => Sys2Proof.Machine.execSetBackwardRainbowPulse a s
  | .light f => Sys2Proof.Machine.execLight f s
  | .palc f => Sys2Proof.Machine.execPalc f s
  | .palx cid => Sys2Proof.Machine.execPalx cid s
  | .palt f => Sys2Proof.Machine.execPalt f s
  | .zone f => Sys2Proof.Machine.execZone f s
  | .zen cid => Sys2Proof.Machine.execZen cid s
  | .fwreq F => Sys2Proof.Machine.execFwreq F s
  | .ltreq F => Sys2Proof.Machine.execLtreq F s
  | .setint F => Sys2Proof.Machine.execSetint F s
  | .ltconf F => Sys2Proof.Machine.execLtconf F s
  | .fwinfo F => Sys2Proof.Machine.execFwinfo F s
  | .ltinfo F => Sys2Proof.Machine.execLtinfo F s
  | .status F => Sys2Proof.Machine.execStatus F s
  | .init => Sys2Proof.Machine.execInit s
  | .poll => Sys2Proof.Machine.execPoll s
  | .emit => Sys2Proof.Machine.execEmit s

end Sys2Proof.Machine
end

