-- ==== Sys2Proof/Machine/Step.lean ====
section
/-! DEFINITION. One step of KX63-FE. A burst in progress sends its next frame (EMIT, "internal step of a burst"); a handshake
left unfinished by a write that did not return goes on; otherwise the first waiting request of the host that is enabled is
decoded and executed; where none is, the block waits (spec/10_state.md R23, spec/20_memory.md R60, spec/60_exceptions.md
R222). -/

namespace Sys2Proof.Machine

/-- The decoded request executed; a rejected word does what `reject` says. -/
def runRequest (q : PortWord) (s : State) : Host.Outcome State Fault Refusal :=
  match decode (.port q) with
  | .ok i    => exec i s
  | .error r => .next (reject r s)

/-- One step. -/
def step (s : State) : Host.Outcome State Fault Refusal :=
  if s.busy then exec .emit s
  else if s.hsRunning then .next (hsStep s)
  else
    match fetch s with
    | some (q, s1) => runRequest q s1
    | none         => .next s

/-- `s` with the instruction of a table word where `step` takes its next one (notes/assumptions/10.md): a command word in front of the waiting
requests of a session that accepts commands; a frame a burst sends as the one frame of a burst; a handshake frame as the one
the read loop reads next. -/
def State.withFetchWord (s : State) (nbits w : Nat) : State :=
  match rawOfTableWord nbits w with
  | .sent F      => { s.accepting with busy := true, fl := [F], fi := 0 }
  | .handshake F => { s.awaitingReads with rxBuf := [F] }
  | .port p      => { s.accepting with port := p :: s.port }
  | _            => s

end Sys2Proof.Machine
end

