-- ==== Sys2Proof/Safety.lean ====
section
/-! DEFINITION. What counts as a safe run of KX63-FE: the invariants of its state and of the frame log, in the terms the
statements use. -/

namespace Sys2Proof.Machine

/-- The invariant of the block's state: the frame buffers are canonical; while a burst runs, its list has 1, 3 or 11 frames and
`FI` is an index of it (spec/10_state.md R23), and the session is initialised; an initialised session has both
acknowledgements and all four requests behind it and has not failed (spec/44_handshake.md R201, R203); `HSCNT` and the count of
requests keep their bounds (R28, R196), nothing is read or acknowledged before the four requests are written (R196); and
`TEMP10` keeps its range (spec/43_status_decoder.md R187). -/
structure State.Inv (s : State) : Prop where
  txf_wf      : Memory.wf s.txf = true
  rxf_wf      : Memory.wf s.rxf = true
  burst_index : s.busy = true → s.fi < s.fl.length
  burst_size  : s.busy = true → s.fl.length = 1 ∨ s.fl.length = 3 ∨ s.fl.length = 11
  burst_init  : s.busy = true → s.init = true
  init_acks   : s.init = true → s.fwack = true ∧ s.ltack = true ∧ s.hsSent = 4 ∧ s.hsfail = false
  reads_bound : s.hscnt ≤ s.cfg.raw.hsMaxReads
  sent_bound  : s.hsSent ≤ 4
  quiet       : s.hsSent < 4 → s.hscnt = 0 ∧ s.fwack = false ∧ s.ltack = false
  temp_range  : s.status.temp10 ≤ 2805

/-- A frame list that `build` returns for some command under a configuration: what a burst may send. -/
def IsBurst (c : RawCfg) (fl : List Frame) : Prop :=
  ∃ ch eff n col spd, build c ch eff n col spd = .ok fl

/-- A burst of the past: the frames of it that were sent, and its whole list. -/
structure PastBurst where
  sent  : List Frame
  whole : List Frame
deriving DecidableEq, Repr

/-- The frames of the handshake requests written so far, in order (spec/44_handshake.md R196). -/
def requestsSent (s : State) : List Frame := (List.range s.hsSent).map (hsReq s.cfg.raw)

/-- The frames of the burst in progress that are already sent (spec/10_state.md R23). -/
def inProgress (s : State) : List Frame := if s.busy then s.fl.take s.fi else []

/-- How many past bursts were abandoned. -/
def abandonedCount (bs : List PastBurst) : Nat := bs.countP fun b => decide (b.sent ≠ b.whole)

/-- The shape of `TXLOG` (spec/20_memory.md R58), `bs` being the past bursts of the session in the order they were issued: the
handshake's requests, then the past bursts one after another, each a leading part of a frame list `build` returned, then the part
already sent of the burst in progress; a past burst is whole but for at most one abandoned burst per write of this session that
did not succeed. No burst precedes a successful handshake. -/
structure LogShapeOf (s : State) (bs : List PastBurst) : Prop where
  current   : s.busy = true → IsBurst s.cfg.raw s.fl
  past      : ∀ b ∈ bs, IsBurst s.cfg.raw b.whole ∧ b.sent <+: b.whole
  none_yet  : s.init = false → bs = []
  log       : s.txlog = requestsSent s ++ (bs.map PastBurst.sent).flatten ++ inProgress s
  abandoned : s.txStart + s.txlog.length + abandonedCount bs ≤ s.txN

/-- `TXLOG` has that shape for some past bursts. -/
def LogShape (s : State) : Prop := ∃ bs, LogShapeOf s bs

/-- How a step from `s` to `t` extends the past bursts `bs`: by none, and a burst in progress goes on with the same list; or, where
it ends the burst in progress, by that burst, whole, or without the frames left where a write fails (spec/20_memory.md R58 (iii)). -/
def ExtendsBursts (s t : State) (bs bs' : List PastBurst) : Prop :=
  (bs' = bs ∧ (s.busy = true → t.busy = true ∧ t.fl = s.fl)) ∨
  (s.busy = true ∧ t.busy = false ∧
    (bs' = bs ++ [⟨s.fl, s.fl⟩] ∧ s.writeAnswer = .ok ∨
     bs' = bs ++ [⟨s.fl.take s.fi, s.fl⟩] ∧ s.writeAnswer = .transportError))

/-- Every frame of `TXLOG` reached the device, in `TXLOG`'s order (spec/20_memory.md R58 (iv)); the device may also have got frames
whose write failed (spec/93_implementation_defined.md U2). -/
def DeviceOrder (s : State) : Prop := List.Sublist s.txlog s.devRx

/-- The colour-count invariant of R210: `minColors <= n <= maxColors`, but `n = 0` where `maxColors = 0`. -/
abbrev CountOk (m : CatalogRow) (n : Nat) : Prop :=
  (m.maxColors = 0 → n = 0) ∧ (m.maxColors ≠ 0 → m.minColors.toNat ≤ n ∧ n ≤ m.maxColors.toNat)

/-- The transport's answer to the `k`-th of the next reads, counted from 0: the receive queue first, then the script, then free
values (spec/10_state.md R31). -/
def State.nthRead (s : State) (k : Nat) : ReadAnswer :=
  match s.rxBuf[k]? with
  | some F => .frame F
  | none   => (s.rxArr[k - s.rxBuf.length]?).getD (Config.readAnswer (s.rxN + k))

/-- The transport's answer to the `k`-th of the next writes, counted from 0. -/
def State.nthWrite (s : State) (k : Nat) : WriteAnswer := (s.txAns[k]?).getD (Config.writeAnswer (s.txN + k))

/-- The answers to the next `k` reads. -/
def State.firstReads (s : State) (k : Nat) : List ReadAnswer := (List.range k).map s.nthRead

/-- A read's answer is a frame with the given tag. -/
def answerHasTag (tag : Byte × Byte) : ReadAnswer → Bool
  | .frame F => F.tag = tag
  | _        => false

/-- Whether a frame with the given tag is among the answers. -/
def sawTag (tag : Byte × Byte) (rs : List ReadAnswer) : Bool := rs.any (answerHasTag tag)

/-- The firmware version in a frame (spec/44_handshake.md R199). -/
def versionIn (c : RawCfg) (F : Frame) : FwVer := ⟨F.get c.fwv0, F.get c.fwv1, F.get c.fwv2⟩

/-- `FWVER` after the answers `rs`, from `v`: each frame with the firmware tag rewrites it (spec/44_handshake.md R197, R199). -/
def versionAfter (c : RawCfg) (v : FwVer) : List ReadAnswer → FwVer
  | []              => v
  | .frame F :: rs  => versionAfter c (if F.tag = (0x11, 0x01) then versionIn c F else v) rs
  | _ :: rs         => versionAfter c v rs

/-- `RXF` after the answers `rs`, from `m`: each frame is loaded (spec/44_handshake.md R198). -/
def bufferAfter (m : Memory) : List ReadAnswer → Memory
  | []              => m
  | .frame F :: rs  => bufferAfter (memLoad m F) rs
  | _ :: rs         => bufferAfter m rs

/-- `s` after `k` reads of the transport, whatever they answered: what they consumed is gone. -/
def State.afterReads (s : State) (k : Nat) : State :=
  { s with rxBuf := s.rxBuf.drop k, rxArr := s.rxArr.drop (k - s.rxBuf.length), rxN := s.rxN + k }

/-- `s` after the writes of the frames `Fs`, each of which returned success. -/
def State.afterWrites (s : State) (Fs : List Frame) : State :=
  { s with txf := Fs.foldl memLoad s.txf, txlog := s.txlog ++ Fs, devRx := s.devRx ++ Fs,
           txAns := s.txAns.drop Fs.length, txN := s.txN + Fs.length }

/-- The four handshake requests, in the order they are sent (spec/44_handshake.md R196). -/
def requests (c : RawCfg) : List Frame := [c.fwReq, c.ltReq, c.setInt, c.ltConf]

/-- A read's answer is not a frame with the given tag. -/
def lacksTag (r : ReadAnswer) (tag : Byte × Byte) : Prop := ∀ F, r = .frame F → F.tag ≠ tag

/-- A step from `s` does not stop with a fault. -/
def State.faultFree (s : State) : Prop := ∀ f, step s ≠ .fault f

end Sys2Proof.Machine
end

