-- ==== Sys2Proof/Certificates/Slice0/Obligations.lean ====
section
/-! DEFINITION. The statements about KX63-FE. A SET is written `Instr.ofEffect e a`, the constructor of effect `e`. Where a statement
equates the next state with `s` and some fields changed, the equation is the completion of the instruction and its frame at once:
every field it does not name is as before. -/

open Sys2Proof Sys2Proof.Machine

/-! ### Decoding and encoding -/

/-- Decoding the encoding of a well-formed instruction gives it back, for every instruction of the table and every operand its
encoding admits. Rests on decisions D3, D5, D14, D31 of the spec and log entry 1. -/
def Obligations.DecodeEncodeRoundTrip : Prop :=
  ∀ i : Instr, i.wellFormed = true → decode (encode i) = .ok i

/-- Every command word the decoder accepts is the encoding of the instruction it reads: no bit of the 977 is lost.
Rests on decisions D1, D3 of the spec. -/
def Obligations.CommandWordsRoundTrip : Prop :=
  ∀ (w : CmdWord) (i : Instr), decode (.port (.cmd w)) = .ok i → encode i = .port (.cmd w)

/-- Every frame the decoder accepts as one a burst sends is the encoding of the well-formed instruction it reads.
Rests on decisions D5, D31 of the spec. -/
def Obligations.SentFramesRoundTrip : Prop :=
  ∀ (F : Frame) (i : Instr), decode (.sent F) = .ok i → i.wellFormed = true ∧ encode i = .sent F

/-- R70's table: where the fields of a command word lie in the 977-bit number it is. Rests on decision D3 of the spec. -/
def Obligations.CommandWordFields : Prop :=
  ∀ v : Nat, v < 2 ^ 977 →
    (CmdWord.ofNat v).toNat = v ∧
    (cmdArgs (CmdWord.ofNat v)).ch = Channel.ofSel (BitVec.ofNat 2 (bits 0 2 v)) ∧
    cmdCode (CmdWord.ofNat v) = BitVec.ofNat 6 (bits 2 6 v) ∧
    (cmdArgs (CmdWord.ofNat v)).spd = BitVec.ofNat 3 (bits 8 3 v) ∧
    (cmdArgs (CmdWord.ofNat v)).n = BitVec.ofNat 6 (bits 11 6 v) ∧
    ∀ i < 40, (cmdArgs (CmdWord.ofNat v)).col.list[i]? = some
      ⟨BitVec.ofNat 8 (bits (17 + 24 * i + 16) 8 v), BitVec.ofNat 8 (bits (17 + 24 * i + 8) 8 v),
       BitVec.ofNat 8 (bits (17 + 24 * i) 8 v)⟩

/-- R72: a command word with an effect code 0..39 decodes to the SET of the effect with that code, and the table of the forty effects,
named in the order of their codes, has R72's columns: code, family, group length, "backwards" flag and path; and each effect has the
SET of its name. Which effects there are and which family each is of are decisions D1 and D30. A command word with a code 40..63, of
which R88 only says that `build` raises `UnknownEffect`, is rejected by the decoder with its code and operands: that is the model's
choice (notes/assumptions/14.md), and Obligations.ReservedEffectCodeRaisesUnknownEffect says what the machine then does.
Rests on decisions D1, D3, D30 of the spec and log entry 14. -/
def Obligations.EffectCodesSelectTheInstruction : Prop :=
  (∀ w : CmdWord,
    ((cmdCode w).toNat < 40 →
      ∃ e : Effect, e.info.code = (cmdCode w).toNat ∧ decode (.port (.cmd w)) = .ok (Instr.ofEffect e (cmdArgs w))) ∧
    (40 ≤ (cmdCode w).toNat → decode (.port (.cmd w)) = .error (.unknownEffect (cmdCode w) (cmdArgs w)))) ∧
  ∀ es : List Effect,
    es = [.fixed, .fading, .spectrumWave, .marquee3, .marquee4, .marquee5, .marquee6, .alternating3, .alternating4,
      .alternating5, .alternating6, .movingAlternating3, .movingAlternating4, .movingAlternating5, .movingAlternating6,
      .pulse, .breathing, .candle, .starryNight, .rainbowFlow, .superRainbow, .rainbowPulse, .loading, .taiChi,
      .waterCooler, .wings, .superFixed, .superBreathing, .backwardSpectrumWave, .backwardMarquee3, .backwardMarquee4,
      .backwardMarquee5, .backwardMarquee6, .backwardMovingAlternating3, .backwardMovingAlternating4,
      .backwardMovingAlternating5, .backwardMovingAlternating6, .backwardRainbowFlow, .backwardSuperRainbow,
      .backwardRainbowPulse] →
    es.map (·.info.code) = List.range 40 ∧
    es.map (·.info.family) = List.flatten
      [[.fixed, .fading, .spectrumWave], List.replicate 4 .marquee, List.replicate 4 .alternating,
       List.replicate 4 .movingAlternating, [.pulse, .breathing, .candle, .starryNight, .rainbowFlow, .superRainbow, .rainbowPulse],
       [.loading, .taiChi, .waterCooler, .wings, .superFixed, .superBreathing, .spectrumWave], List.replicate 4 .marquee,
       List.replicate 4 .movingAlternating, [.rainbowFlow, .superRainbow, .rainbowPulse]] ∧
    es.map (fun e => e.info.len.getD 0) = List.flatten
      [List.replicate 3 0, [3, 4, 5, 6], [3, 4, 5, 6], [3, 4, 5, 6], List.replicate 14 0, [3, 4, 5, 6], [3, 4, 5, 6],
       List.replicate 3 0] ∧
    (∀ e ∈ es, e.info.len ≠ some 0) ∧
    es.map (·.info.bwd) = List.replicate 28 false ++ List.replicate 12 true ∧
    es.map (·.info.path) = List.flatten [List.replicate 25 .default, [.wings, .dense, .dense], List.replicate 12 .default] ∧
    ∀ a, es.map (Instr.ofEffect · a) =
      [.setFixed a, .setFading a, .setSpectrumWave a, .setMarquee3 a, .setMarquee4 a, .setMarquee5 a, .setMarquee6 a,
       .setAlternating3 a, .setAlternating4 a, .setAlternating5 a, .setAlternating6 a, .setMovingAlternating3 a,
       .setMovingAlternating4 a, .setMovingAlternating5 a, .setMovingAlternating6 a, .setPulse a, .setBreathing a,
       .setCandle a, .setStarryNight a, .setRainbowFlow a, .setSuperRainbow a, .setRainbowPulse a, .setLoading a,
       .setTaiChi a, .setWaterCooler a, .setWings a, .setSuperFixed a, .setSuperBreathing a, .setBackwardSpectrumWave a,
       .setBackwardMarquee3 a, .setBackwardMarquee4 a, .setBackwardMarquee5 a, .setBackwardMarquee6 a,
       .setBackwardMovingAlternating3 a, .setBackwardMovingAlternating4 a, .setBackwardMovingAlternating5 a,
       .setBackwardMovingAlternating6 a, .setBackwardRainbowFlow a, .setBackwardSuperRainbow a, .setBackwardRainbowPulse a]

/-- Words written out from the spec's encodings decode to the instructions they stand for: the vectors V-C1, V-C3, V-C6 and V-C7 of
spec/95_test_vectors.md, and frames of R79, R82, R84 and R85 by their bytes. Rests on decisions D1, D3, D5, D31 of the spec. -/
def Obligations.SpecWordsDecode : Prop :=
  decode (.port (.cmd (CmdWord.ofNat 0x14283C0A01)))
    = .ok (.setFixed ⟨.ring, 2, 1, ColourRegs.ofList [⟨0x0A, 0x14, 0x1E⟩]⟩) ∧
  decode (.port (.cmd (CmdWord.ofNat 0x1FEC80A0B66)))
    = .ok (.setWings ⟨.logo, 3, 1, ColourRegs.ofList [⟨0xFF, 0x64, 0x05⟩]⟩) ∧
  decode (.port (.cmd (CmdWord.ofNat 0x108))) = .ok (.setSpectrumWave ⟨.external, 1, 0, ColourRegs.ofList []⟩) ∧
  decode (.port (.cmd (CmdWord.ofNat 0x1FE000C7E)))
    = .ok (.setBackwardMarquee5 ⟨.logo, 4, 1, ColourRegs.ofList [⟨0x00, 0xFF, 0x00⟩]⟩) ∧
  decode (.sent (pad64 [0x22, 0x11, 0x07])) = .ok (.palx .sync) ∧
  decode (.sent (pad64 [0x22, 0x03, 0x04, 0x08])) = .ok (.zen .logo) ∧
  decode (.handshake (pad64 [0x11, 0x01])) = .ok (.fwinfo (pad64 [0x11, 0x01])) ∧
  decode (.handshake (pad64 [0x21, 0x03])) = .ok (.ltinfo (pad64 [0x21, 0x03]))

/-! ### `build` -/

/-- R74, R88, R210, R212, R213: under a well-formed configuration `build` accepts a command exactly when its effect exists, its colour
count is not one of the reserved 41..63 and keeps the catalog's bounds, its speed level is 0..4, and, on the dense path, its colours
fit or are to be truncated. R170: for Wings such a command has one colour at least. That R88 decides on 41..63, and that R170 holds
of every well-formed configuration, are inferences (notes/assumptions/5.md).
Rests on decisions D3, D6, D7, D8, D23 of the spec and log entry 5. -/
def Obligations.BuildAcceptsExactlyTheValidCommands : Prop :=
  ∀ (c : Cfg) (ch : Channel) (eff : BitVec 6) (n : Nat) (col : ColourRegs) (s : BitVec 3),
    ((∃ fl, build c.raw ch eff n col s = .ok fl) ↔
      ∃ e m, Effect.ofCode eff = some e ∧ c.raw.row e = some m ∧ n ≤ 40 ∧ CountOk m n ∧ s.toNat ≤ 4 ∧
        (e.info.path = .dense → n ≤ 20 ∨ c.raw.denseOverflow = .truncate)) ∧
    ((∃ fl, build c.raw ch eff n col s = .ok fl) → eff = Effect.wings.code → 1 ≤ n)

/-- R218: which error `build` reports when a command breaks several conditions, and what it records (R210 to R213). A count of 41..63 is
`TooMany`, or `NoneNeeded` where the effect takes no colour (R88), and Wings without a colour is `TooFew` (R178, by the check
`wingsColour`). That R88 decides on 41..63 also under a Wings row with `maxColors` above 40, and that check, are inferences
(notes/assumptions/5.md). Rests on decisions D3, D6, D8, D18 of the spec and log entry 5. -/
def Obligations.BuildReportsTheFirstError : Prop :=
  ∀ (c : Cfg) (ch : Channel) (eff : BitVec 6) (n : Nat) (col : ColourRegs) (s : BitVec 3),
    (Effect.ofCode eff = none → build c.raw ch eff n col s = .error (.unknownEffect eff)) ∧
    ∀ e m, Effect.ofCode eff = some e → c.raw.row e = some m →
      (m.maxColors = 0 → 0 < n →
        build c.raw ch eff n col s
          = .error (.invalidColorCount .noneNeeded n m.minColors.toNat m.maxColors.toNat)) ∧
      (m.maxColors ≠ 0 → n < m.minColors.toNat → n ≤ 40 →
        build c.raw ch eff n col s = .error (.invalidColorCount .tooFew n m.minColors.toNat m.maxColors.toNat)) ∧
      (m.maxColors ≠ 0 → m.maxColors.toNat < n →
        build c.raw ch eff n col s = .error (.invalidColorCount .tooMany n m.minColors.toNat m.maxColors.toNat)) ∧
      (m.maxColors ≠ 0 → 40 < n →
        build c.raw ch eff n col s = .error (.invalidColorCount .tooMany n m.minColors.toNat m.maxColors.toNat)) ∧
      (e.info.path = .wings → n = 0 →
        build c.raw ch eff n col s = .error (.invalidColorCount .tooFew n m.minColors.toNat m.maxColors.toNat)) ∧
      (CountOk m n → n ≤ 40 → 4 < s.toNat → build c.raw ch eff n col s = .error (.invalidSpeedIndex m.speedClass s)) ∧
      (CountOk m n → s.toNat ≤ 4 → e.info.path = .dense → 20 < n → c.raw.denseOverflow = .fault →
        build c.raw ch eff n col s = .error (.frameOverflow .dense n))

/-- R21, R88: the colours beyond the `n` supplied play no part in what `build` answers, and `issue` writes exactly the first `n`
colour registers of the latch (that the others keep what they held is the model's choice, notes/assumptions/12.md).
Rests on decision D3 of the spec. -/
def Obligations.UnusedColoursAreIgnored : Prop :=
  (∀ (c : Cfg) (ch : Channel) (eff : BitVec 6) (n : Nat) (col col' : ColourRegs) (s : BitVec 3),
    col.list.take n = col'.list.take n → build c.raw ch eff n col s = build c.raw ch eff n col' s) ∧
  ∀ (old new : ColourRegs) (n i : Nat),
    (ColourRegs.load old new n).list[i]? = if i < n then new.list[i]? else old.list[i]?

/-- R100 to R103: every byte of a LIGHT frame, for at most sixteen colours and whatever order of the footer bytes is configured; which
of the five footer bytes stands where is said by its name, and what each of them is by Obligations.LightDirectionAndModeBytes and
Obligations.LightStaticCountSizeBytes. That the header, the body and the footer lie end to end at these offsets is the spec's own
decision D5 (R77, notes/assumptions/4.md), and that the footer has the configured order is D4.
Rests on decisions D4, D5 of the spec and log entry 4. -/
def Obligations.LightFrameLayout : Prop :=
  ∀ (c : Cfg) (ch : Channel) (e : Effect) (m : CatalogRow) (n : Nat) (cols : List Colour) (t0 t1 : Byte) (F : Frame),
    cols.length = n → n ≤ 16 → F = lightFrame c.raw ch e m n cols t0 t1 →
    F.get 0 = 0x2A ∧ F.get 1 = 0x04 ∧ F.get 2 = cidByte ch ∧ F.get 3 = cidByte ch ∧ F.get 4 = m.opcode ∧
    F.get 5 = t0 ∧ F.get 6 = t1 ∧
    (∀ (i : Nat) (x : Colour), cols[i]? = some x → F.get (7 + 3 * i) = x.g ∧ F.get (8 + 3 * i) = x.r ∧ F.get (9 + 3 * i) = x.b) ∧
    (∀ k, 7 + 3 * n ≤ k → k < 55 → F.get k = 0) ∧
    (∀ (j : Nat) (f : FooterField), c.raw.footerOrder[j]? = some f → F.get (55 + j) =
      match f with
      | .dir    => dirByte e
      | .mode   => modeByte e
      | .static => staticB ch
      | .count  => countByte e n
      | .size   => sizeByte m) ∧
    (∀ k, 60 ≤ k → k < 64 → F.get k = 0)

/-- R104, R105: the direction and the mode byte of the footer, by the family of the effect and its "backwards" flag. For the effects
by name, Obligations.LightStaticCountSizeBytes says them. -/
def Obligations.LightDirectionAndModeBytes : Prop :=
  (∀ e : Effect,
    (dirByte e).toNat =
      (if e.info.family = .marquee then 4
       else if e.info.family = .starryNight ∨ e.info.family = .movingAlternating then 1 else 0)
      + (if e.info.bwd then 2 else 0)) ∧
  ∀ e : Effect,
    modeByte e =
      if e.info.family = .fading ∨ e.info.family = .pulse ∨ e.info.family = .breathing then 8
      else if e.info.family = .taiChi ∨ e.info.family = .waterCooler then 5
      else if e.info.family = .loading then 4 else 0

/-- R106 to R108: the static, count and size bytes of the footer; the direction, mode and count bytes of the effects by name (R104,
R105, R107; E11 to E14 of spec/95_test_vectors.md); and the channel ids of R71 (E15), which every frame of a command carries. Which
effects are of a family is decision D30, and that the static bytes are decimal is D22. Rests on decisions D22, D30 of the spec. -/
def Obligations.LightStaticCountSizeBytes : Prop :=
  (staticB .external = 40 ∧ staticB .ring = 8 ∧ staticB .logo = 1 ∧ staticB .sync = 40) ∧
  (∀ (e : Effect) (n : Nat), n ≤ 16 →
    (countByte e n).toNat = if e.info.family = .waterCooler then 1 else n) ∧
  (∀ m : CatalogRow, sizeByte m = if m.opcode = 0x03 ∨ m.opcode = 0x05 then m.variant else 3) ∧
  (∀ e : Effect, (dirByte e).toNat =
    if e ∈ [.marquee3, .marquee4, .marquee5, .marquee6] then 4
    else if e ∈ [.backwardMarquee3, .backwardMarquee4, .backwardMarquee5, .backwardMarquee6] then 6
    else if e ∈ [.starryNight, .movingAlternating3, .movingAlternating4, .movingAlternating5, .movingAlternating6] then 1
    else if e ∈ [.backwardMovingAlternating3, .backwardMovingAlternating4, .backwardMovingAlternating5,
      .backwardMovingAlternating6] then 3
    else if e ∈ [.backwardSpectrumWave, .backwardRainbowFlow, .backwardSuperRainbow, .backwardRainbowPulse] then 2
    else 0) ∧
  (∀ e : Effect, modeByte e =
    if e ∈ [.fading, .pulse, .breathing] then 8
    else if e ∈ [.taiChi, .waterCooler] then 5
    else if e = .loading then 4 else 0) ∧
  (∀ (e : Effect) (n : Nat), n ≤ 16 → (countByte e n).toNat = if e = .waterCooler then 1 else n) ∧
  cidByte .external = 0x01 ∧ cidByte .ring = 0x02 ∧ cidByte .logo = 0x04 ∧ cidByte .sync = 0x07

/-- R108, K6: under a well-formed configuration the `size` byte of a length-family effect is its group length.
Rests on decision D30 of the spec. -/
def Obligations.LengthFamilySizeIsGroupLength : Prop :=
  ∀ (c : Cfg) (e : Effect) (m : CatalogRow) (L : Nat),
    c.raw.row e = some m → e.info.len = some L → (sizeByte m).toNat = L

/-- R160, R161, R163 to R165: the three frames of a dense burst whose colours fit, in order, every byte of them. That the channel id
lies at byte 2 and the payload after it (R78 to R80) is the spec's own decision D31. Rests on decision D31 of the spec and log
entry 4. -/
def Obligations.DenseFramesLayout : Prop :=
  ∀ (ch : Channel) (m : CatalogRow) (cols : List Colour) (t0 t1 : Byte), cols.length ≤ 20 →
    ∃ F1 F2 F3, denseFrames ch m cols t0 t1 = [F1, F2, F3] ∧
      (F1.get 0 = 0x22 ∧ F1.get 1 = 0x10 ∧ F1.get 2 = cidByte ch ∧
        (∀ (i : Nat) (x : Colour), cols[i]? = some x → F1.get (3 + 3 * i) = x.g ∧ F1.get (4 + 3 * i) = x.r ∧ F1.get (5 + 3 * i) = x.b) ∧
        ∀ k, 3 + 3 * cols.length ≤ k → k < 64 → F1.get k = 0) ∧
      (F2.get 0 = 0x22 ∧ F2.get 1 = 0x11 ∧ F2.get 2 = cidByte ch ∧ ∀ k, 3 ≤ k → k < 64 → F2.get k = 0) ∧
      (F3.get 0 = 0x22 ∧ F3.get 1 = 0xA0 ∧ F3.get 2 = cidByte ch ∧ F3.get 3 = m.opcode ∧ F3.get 4 = t0 ∧
        F3.get 5 = t1 ∧ F3.get 6 = 0x08 ∧ F3.get 7 = 0x00 ∧ F3.get 8 = 0x00 ∧ F3.get 9 = 0x80 ∧ F3.get 10 = 0x00 ∧
        F3.get 11 = 0x32 ∧ F3.get 12 = 0x00 ∧ F3.get 13 = 0x00 ∧ F3.get 14 = 0x01 ∧
        ∀ k, 15 ≤ k → k < 64 → F3.get k = 0)

/-- R162: more than twenty colours on the dense path. Under `fault` the command is refused; under `truncate` frame 1 holds colours
0..19 whole and the G byte of colour 20 at byte 63, and frames 2 and 3 are as usual. Rests on decision D6 of the spec. -/
def Obligations.DenseOverflow : Prop :=
  ∀ (c : Cfg) (ch : Channel) (e : Effect) (m : CatalogRow) (n : Nat) (col : ColourRegs) (s : BitVec 3) (t : Byte × Byte),
    e.info.path = .dense → c.raw.row e = some m → CountOk m n → s.toNat ≤ 4 →
    c.raw.timingOf m.speedClass s.toNat = some t → 20 < n →
    (c.raw.denseOverflow = .fault → build c.raw ch e.code n col s = .error (.frameOverflow .dense n)) ∧
    (c.raw.denseOverflow = .truncate →
      ∃ F1, build c.raw ch e.code n col s
          = .ok [F1, pad64 [0x22, 0x11, cidByte ch],
                 pad64 ([0x22, 0xA0, cidByte ch, m.opcode, t.1, t.2] ++ denseSuffix)] ∧
        F1.get 0 = 0x22 ∧ F1.get 1 = 0x10 ∧ F1.get 2 = cidByte ch ∧
        (∀ (i : Nat) (x : Colour), i < 20 → col.list[i]? = some x →
          F1.get (3 + 3 * i) = x.g ∧ F1.get (4 + 3 * i) = x.r ∧ F1.get (5 + 3 * i) = x.b) ∧
        ∀ x, col.list[20]? = some x → F1.get 63 = x.g)

/-- R170, R173, R175, R176, R81, R82: every byte of the eleven frames of a Wings burst. The template bytes are those of `wt`
(Obligations.WingsTemplate). That the channel id lies at byte 2 and the zone index and the 0x08 at byte 3 is the spec's own decision
D31 (notes/assumptions/4.md), and that a palette group is the six bytes 17..22 is its decision D32.
Rests on decisions D9, D10, D31, D32 of the spec and log entry 4. -/
def Obligations.WingsFramesLayout : Prop :=
  ∀ (c : Cfg) (ch : Channel) (c1 : Colour) (t0 t1 : Byte),
    ∃ (A B E : Frame) (zs : List Frame), wingsFrames c.raw ch c1 t0 t1 = A :: B :: zs ++ [E] ∧ zs.length = 8 ∧
      (A.get 0 = 0x22 ∧ A.get 1 = 0x10 ∧ A.get 2 = cidByte ch ∧ ∀ k, 3 ≤ k → k < 64 → A.get k = 0) ∧
      (B.get 0 = 0x22 ∧ B.get 1 = 0x11 ∧ B.get 2 = cidByte ch ∧ ∀ k, 3 ≤ k → k < 64 → B.get k = 0) ∧
      (E.get 0 = 0x22 ∧ E.get 1 = 0x03 ∧ E.get 2 = cidByte ch ∧ E.get 3 = 0x08 ∧ ∀ k, 4 ≤ k → k < 64 → E.get k = 0) ∧
      ∀ (i : Nat) (Z : Frame), zs[i]? = some Z →
        Z.get 0 = 0x22 ∧ Z.get 1 = 0x20 ∧ Z.get 2 = cidByte ch ∧ (Z.get 3).toNat = i ∧
        (∀ j < 13, some (Z.get (4 + j)) =
          (wt c.raw t0 t1 (if i = 3 ∨ i = 7 then 5 else 1) (if i < 4 then 0x04 else 0x84)
            (if i < 4 then 0x84 else 0x04))[j]?) ∧
        (∀ k, k < 2 →
          (Z.get (17 + 3 * k), Z.get (18 + 3 * k), Z.get (19 + 3 * k)) =
            if i % 4 = 0 then (c1.g, c1.r, c1.b)
            else if i % 4 = 1 then (scaleTwoFifths c1.g, scaleTwoFifths c1.r, scaleTwoFifths c1.b)
            else if i % 4 = 2 then
              (scaleQuarter (scaleTwoFifths c1.g), scaleQuarter (scaleTwoFifths c1.r),
               scaleQuarter (scaleTwoFifths c1.b))
            else (0, 0, 0)) ∧
        ∀ k, 23 ≤ k → k < 64 → Z.get k = 0

/-- R174: the five replaced bytes of the template and the eight copied ones. Rests on decision D10 of the spec. -/
def Obligations.WingsTemplate : Prop :=
  ∀ (c : Cfg) (t0 t1 mod d0 d1 : Byte) (T : List Byte), T = wt c.raw t0 t1 mod d0 d1 →
    T.length = 13 ∧ T[c.raw.wtTlo]? = some t0 ∧ T[c.raw.wtThi]? = some t1 ∧ T[c.raw.wtMod]? = some mod ∧
    T[c.raw.wtD0]? = some d0 ∧ T[c.raw.wtD1]? = some d1 ∧
    ∀ j < 13, j ∉ [c.raw.wtTlo, c.raw.wtThi, c.raw.wtMod, c.raw.wtD0, c.raw.wtD1] → T[j]? = c.raw.wtConst[j]?

/-- R171: the brightness ramp of one channel, exact, with its ranges. Rests on decision D9 of the spec. -/
def Obligations.WingsRamp : Prop :=
  ∀ x : Byte,
    (scaleTwoFifths x).toNat = 2 * x.toNat / 5 ∧ (scaleTwoFifths x).toNat ≤ 102 ∧
    (scaleQuarter (scaleTwoFifths x)).toNat = x.toNat / 10 ∧ (scaleQuarter (scaleTwoFifths x)).toNat ≤ 25

/-- R76, R109 (vi), R165 (i), R177 (i), (ii): a burst is one LIGHT frame; or PALC, PALX, PALT; or PALC, PALX, eight ZONE frames in
index order, ZEN; by path. Each frame is the encoding of a well-formed instruction of that kind on the command's channel.
Rests on decisions D5, D31 of the spec. -/
def Obligations.BurstsAreTheTableFrameKinds : Prop :=
  ∀ (c : Cfg) (ch : Channel) (e : Effect) (n : Nat) (col : ColourRegs) (s : BitVec 3) (fl : List Frame),
    build c.raw ch e.code n col s = .ok fl →
    match e.info.path with
    | .default => ∃ f : LightFields, f.cid = ch ∧ (Instr.light f).wellFormed = true ∧ fl = [encodeLight f]
    | .dense =>
        ∃ (p : PalcFields) (q : PaltFields), p.cid = ch ∧ (Instr.palc p).wellFormed = true ∧ q.cid = ch ∧
          fl = [encodePalc p, encodePalx ch, encodePalt q]
    | .wings =>
        ∃ (p : PalcFields) (zs : List ZoneFields), p.cid = ch ∧ (Instr.palc p).wellFormed = true ∧ zs.length = 8 ∧
          (∀ (i : Nat) (z : ZoneFields), zs[i]? = some z → z.cid = ch ∧ z.zone.toNat = i ∧ (Instr.zone z).wellFormed = true) ∧
          fl = encodePalc p :: encodePalx ch :: zs.map encodeZone ++ [encodeZen ch]

/-! ### SET -/

/-- R23, R74, R100, R110 to R146: each of the 37 default-path SETs, issued with valid operands to a block that is ready, loads its
one LIGHT frame and takes the session lock. Rests on decision D2 of the spec and log entries 12, 20. -/
def Obligations.SetDefaultPathCompletes : Prop :=
  ∀ (e : Effect) (a : CmdArgs) (s : State) (m : CatalogRow) (t : Byte × Byte),
    e.info.path = .default → s.ready = true → s.cfg.raw.row e = some m → CountOk m a.n.toNat → a.spd.toNat ≤ 4 →
    s.cfg.raw.timingOf m.speedClass a.spd.toNat = some t →
    exec (Instr.ofEffect e a) s = .next
      { s with
        latch := ⟨a.ch, e.code, a.spd, a.n, ColourRegs.load s.latch.col a.col a.n.toNat⟩
        err := .none
        fl := [lightFrame s.cfg.raw a.ch e m a.n.toNat (a.col.list.take a.n.toNat) t.1 t.2]
        fi := 0
        busy := true }

/-- R23, R74, R160, R166, R167: SET SuperFixed and SET SuperBreathing, issued with valid operands whose colours fit a frame, or are
to be truncated, to a block that is ready, load the frames PALC, PALX, PALT and take the session lock.
Rests on decisions D2, D6 of the spec and log entries 12, 20. -/
def Obligations.SetDensePathCompletes : Prop :=
  ∀ (e : Effect) (a : CmdArgs) (s : State) (m : CatalogRow) (t : Byte × Byte),
    e.info.path = .dense → s.ready = true → s.cfg.raw.row e = some m → CountOk m a.n.toNat → a.spd.toNat ≤ 4 →
    (a.n.toNat ≤ 20 ∨ s.cfg.raw.denseOverflow = .truncate) →
    s.cfg.raw.timingOf m.speedClass a.spd.toNat = some t →
    exec (Instr.ofEffect e a) s = .next
      { s with
        latch := ⟨a.ch, e.code, a.spd, a.n, ColourRegs.load s.latch.col a.col a.n.toNat⟩
        err := .none
        fl := denseFrames a.ch m (a.col.list.take a.n.toNat) t.1 t.2
        fi := 0
        busy := true }

/-- R23, R74, R170, R178: SET Wings, issued with valid operands to a block that is ready, loads its eleven frames, made from the first
colour, and takes the session lock; there is a first colour, because a valid count is not 0 (R170). A valid count is not one of the
reserved 41..63 (R88). That R88 decides on these, and that R170 holds of every well-formed configuration, are inferences
(notes/assumptions/5.md). Rests on decisions D2, D3, D8 of the spec and log entries 5, 12, 20. -/
def Obligations.SetWingsCompletes : Prop :=
  ∀ (a : CmdArgs) (s : State) (m : CatalogRow) (t : Byte × Byte) (c1 : Colour),
    s.ready = true → s.cfg.raw.row .wings = some m → a.n.toNat ≤ 40 → CountOk m a.n.toNat → a.spd.toNat ≤ 4 →
    s.cfg.raw.timingOf m.speedClass a.spd.toNat = some t → a.col.list[0]? = some c1 →
    a.n ≠ 0 ∧ exec (.setWings a) s = .next
      { s with
        latch := ⟨a.ch, Effect.wings.code, a.spd, a.n, ColourRegs.load s.latch.col a.col a.n.toNat⟩
        err := .none
        fl := wingsFrames s.cfg.raw a.ch c1 t.1 t.2
        fi := 0
        busy := true }

/-- R216: a rejected SET changes `ERR` and the command latch only: nothing is sent, `BUSY` stays 0, `FL` and `FI` stay. Which error,
Obligations.BuildReportsTheFirstError says. Rests on decision D2 of the spec and log entries 12, 20. -/
def Obligations.SetRejectedSendsNothing : Prop :=
  ∀ (e : Effect) (a : CmdArgs) (s : State) (x : EncodeError),
    s.ready = true → build s.cfg.raw a.ch e.code a.n.toNat a.col a.spd = .error x →
    exec (Instr.ofEffect e a) s = .next
      { s with
        latch := ⟨a.ch, e.code, a.spd, a.n, ColourRegs.load s.latch.col a.col a.n.toNat⟩
        err := .encode x }

/-- R88, R211: a command word with a reserved effect code, when its turn comes, raises `UnknownEffect` with the code; like every
rejected command it sends nothing (R216). Its turn comes when no request before it is enabled (an INIT before it is held, R195): that
the first enabled request is served is the model's choice (notes/assumptions/2.md).
Rests on decision D3 of the spec and log entries 2, 12, 14, 20. -/
def Obligations.ReservedEffectCodeRaisesUnknownEffect : Prop :=
  ∀ (s : State) (w : CmdWord) (before after : List PortWord) (a : CmdArgs),
    s.ready = true → s.port = before ++ .cmd w :: after → (∀ p ∈ before, s.enabled p = false) →
    40 ≤ (cmdCode w).toNat → a = cmdArgs w →
    step s = .next
      { s with
        port := before ++ after
        latch := ⟨a.ch, cmdCode w, a.spd, a.n, ColourRegs.load s.latch.col a.col a.n.toNat⟩
        err := .encode (.unknownEffect (cmdCode w)) }

/-- R23, R58, R189, R195, R222: an operation or a frame kind that is not enabled changes nothing: SET, POLL and STATUS unless
`INIT = 1`, `BUSY = 0`, `HSFAIL = 0`; INIT after a handshake has begun; EMIT while `BUSY = 0`; a burst's frame that is not the one the
burst sends next; a handshake frame out of its turn. (That such an instruction is a step without effect is the model's choice,
notes/assumptions/1.md; a request that waits stays in the port, Obligations.HeldRequestsWait.)
Rests on decisions D19, D25 of the spec and log entries 1, 20. -/
def Obligations.NotEnabledChangesNothing : Prop :=
  ∀ s : State,
    (s.ready = false →
      (∀ e a, exec (Instr.ofEffect e a) s = .next s) ∧ exec .poll s = .next s ∧ ∀ F, exec (.status F) s = .next s) ∧
    (s.initEnabled = false → exec .init s = .next s) ∧
    (s.busy = false → exec .emit s = .next s) ∧
    (∀ i F, encode i = .sent F → s.currentFrame ≠ some F → exec i s = .next s) ∧
    (∀ i k F, encode i = .request k F →
      (s.uninit = false ∨ s.hsSent ≠ k.toNat ∨ F ≠ hsReq s.cfg.raw k.toNat) → exec i s = .next s) ∧
    (s.hsReading = false → ∀ i F, encode i = .handshake F → exec i s = .next s)

/-! ### Bursts -/

/-- R23: EMIT sends frame `FL[FI]`, `FI` advances by one, and the lock is released after the last frame.
Rests on decision D2 of the spec and log entries 15, 20. -/
def Obligations.EmitSendsTheCurrentFrame : Prop :=
  ∀ (s : State) (F : Frame), s.busy = true → s.fl[s.fi]? = some F → s.writeAnswer = .ok →
    exec .emit s = .next
      { s with
        txf := memLoad s.txf F
        txlog := s.txlog ++ [F]
        devRx := s.devRx ++ [F]
        txAns := s.txAns.tail
        txN := s.txN + 1
        fi := s.fi + 1
        busy := decide (s.fi + 1 < s.fl.length)
        devHavoc := s.devHavoc && decide (s.fi + 1 < s.fl.length) }

/-- R214: a write that fails in a burst abandons it: `ERR` says TransportError, the lock is released, `FI` and `TXLOG` stay, the later
frames are never sent; whether the failing frame reached the device is a free value.
Rests on decision D21 of the spec and log entries 9, 15, 20. -/
def Obligations.EmitFailureAbandonsTheBurst : Prop :=
  ∀ (s : State) (F : Frame), s.busy = true → s.fl[s.fi]? = some F → s.writeAnswer = .transportError →
    exec .emit s = .next
      { s with
        txf := memLoad s.txf F
        devRx := s.devRx ++ if Config.failedWriteReached s.txN then [F] else []
        txAns := s.txAns.tail
        txN := s.txN + 1
        busy := false
        err := .transportError
        devHavoc := true }

/-- The one fault of the model: EMIT with `BUSY = 1` and no frame `FL[FI]`, which Obligations.InvariantStatesAreFaultFree rules out of
every run; and U12: a write that never returns leaves the block where it is. Rests on log entries 11, 13. -/
def Obligations.EmitWithoutAFrameOrAnAnswer : Prop :=
  ∀ s : State, s.busy = true →
    (s.fl[s.fi]? = none → exec .emit s = .fault .noCurrentFrame) ∧
    (∀ F, s.fl[s.fi]? = some F → s.writeAnswer = .never → exec .emit s = .next s)

/-- R76 to R82, R214: LIGHT, PALC, PALX, PALT, ZONE and ZEN, each when it is the frame the burst sends next, reach the transport, and
the sequencer moves on, as EMIT does it; a write that fails abandons the burst; a write that never returns (U12) leaves the block
where it is, which is the model's choice (notes/assumptions/11.md).
Rests on decisions D2, D21 of the spec and log entries 1, 9, 11, 15, 20. -/
def Obligations.BurstFrameKindsAreSent : Prop :=
  ∀ (s : State) (i : Instr) (F : Frame), encode i = .sent F → s.currentFrame = some F →
    (s.writeAnswer = .ok →
      exec i s = .next
        { s with
          txf := memLoad s.txf F
          txlog := s.txlog ++ [F]
          devRx := s.devRx ++ [F]
          txAns := s.txAns.tail
          txN := s.txN + 1
          fi := s.fi + 1
          busy := decide (s.fi + 1 < s.fl.length)
          devHavoc := s.devHavoc && decide (s.fi + 1 < s.fl.length) }) ∧
    (s.writeAnswer = .transportError →
      exec i s = .next
        { s with
          txf := memLoad s.txf F
          devRx := s.devRx ++ if Config.failedWriteReached s.txN then [F] else []
          txAns := s.txAns.tail
          txN := s.txN + 1
          busy := false
          err := .transportError
          devHavoc := true }) ∧
    (s.writeAnswer = .never → exec i s = .next s)

/-- R58 (i), R245: from any point of a burst, if the transport takes the frames that are left, the machine sends exactly them, in the
order of `FL` with no other frame between them, in that many steps, and releases the lock; the handshake's registers, the receive
side and the waiting requests stay. That `ERR` stays too, and that `TXF` keeps the last frame after the burst, are the model's choice
(notes/assumptions/17.md, 20.md). Rests on decision D2 of the spec and log entries 2, 15, 17, 20. -/
def Obligations.BurstSendsItsFramesInOrder : Prop :=
  ∀ (s : State) (left : List Frame),
    s.busy = true → left = s.fl.drop s.fi → left ≠ [] → (∀ k < left.length, s.nthWrite k = .ok) →
    Host.Core.run Sys2Proof.core left.length s = .next
      { s.afterWrites left with fi := s.fl.length, busy := false, devHavoc := false }

/-! ### DEC -/

/-- R186, R187, R189, R190: POLL, when the transport answers with a frame, writes it to `RXF`, its five status bytes to `STATUS` and
`None` to `ERR`, and nothing else but what the read consumed. Rests on decisions D11, D12, D25 of the spec and log entry 20. -/
def Obligations.PollDecodesTheFrame : Prop :=
  ∀ (s : State) (F : Frame), s.ready = true → Memory.wf s.rxf = true → s.nthRead 0 = .frame F →
    exec .poll s = .next
      { s.afterReads 1 with
        rxf := memLoad s.rxf F
        status :=
          { temp10 := 10 * (F.get s.cfg.raw.stTemp).toNat + (F.get (s.cfg.raw.stTemp + 1)).toNat
            rpm := BitVec.ofNat 16 ((F.get s.cfg.raw.stRpm).toNat + 256 * (F.get (s.cfg.raw.stRpm + 1)).toNat)
            duty := F.get s.cfg.raw.stDuty }
        err := .none }

/-- R189, R214, R215: POLL, when the read times out or fails, writes that to `ERR`; `STATUS` and `RXF` stay.
Rests on decision D25 of the spec and log entry 20. -/
def Obligations.PollWithoutAFrame : Prop :=
  ∀ s : State, s.ready = true →
    (s.nthRead 0 = .timeout → exec .poll s = .next { s.afterReads 1 with err := .timeout }) ∧
    (s.nthRead 0 = .transportError → exec .poll s = .next { s.afterReads 1 with err := .transportError })

/-- R86, R188: STATUS: any frame received while the block is ready is decoded, whatever its first bytes.
Rests on decisions D11, D12, D13 of the spec and log entries 1, 20. -/
def Obligations.StatusFrameDecodes : Prop :=
  ∀ (s : State) (F : Frame), s.ready = true → Memory.wf s.rxf = true →
    exec (.status F) s = .next
      { s with
        rxf := memLoad s.rxf F
        status :=
          { temp10 := 10 * (F.get s.cfg.raw.stTemp).toNat + (F.get (s.cfg.raw.stTemp + 1)).toNat
            rpm := BitVec.ofNat 16 ((F.get s.cfg.raw.stRpm).toNat + 256 * (F.get (s.cfg.raw.stRpm + 1)).toNat)
            duty := F.get s.cfg.raw.stDuty }
        err := .none }

/-- R185, R191: DEC reads five bytes of a frame and nothing else: frames that agree on them decode alike, whatever the buffer held.
Rests on decision D11 of the spec. -/
def Obligations.DecodeReadsFiveBytes : Prop :=
  ∀ (c : Cfg) (m m' : Memory) (F G : Frame), Memory.wf m = true → Memory.wf m' = true →
    (∀ k ∈ [c.raw.stTemp, c.raw.stTemp + 1, c.raw.stRpm, c.raw.stRpm + 1, c.raw.stDuty], F.get k = G.get k) →
    decodeStatus c.raw (memLoad m F) = decodeStatus c.raw (memLoad m' G)

/-- R51, R57: a frame buffer loaded with a frame reads as the frame at each of its 64 offsets. That the loaded buffer is canonical, and
that equal frames give equal buffers whatever they held, is said of the model's representation of a buffer, which is its own choice
(notes/assumptions/7.md). Rests on log entry 7. -/
def Obligations.FrameBufferHoldsTheFrame : Prop :=
  ∀ (m m' : Memory) (F : Frame), Memory.wf m = true → Memory.wf m' = true →
    Memory.wf (memLoad m F) = true ∧ (∀ a < 64, memRead (memLoad m F) a = F.get a) ∧ memLoad m F = memLoad m' F

/-! ### HS -/

/-- R196 to R202, R205: INIT, when the transport takes the four requests and the first two reads are the two acknowledgements in either
order, ends after exactly two reads with both flags, `INIT = 1`, the firmware version and no error.
Rests on decisions D15, D16, D28 of the spec and log entries 1, 16, 20. -/
def Obligations.InitSucceedsInTwoReads : Prop :=
  ∀ (s : State) (A B : Frame),
    s.initEnabled = true → s.fwack = false → s.ltack = false → Memory.wf s.rxf = true →
    (∀ k < 4, s.nthWrite k = .ok) → A.tag = (0x11, 0x01) → B.tag = (0x21, 0x03) →
    (s.nthRead 0 = .frame A ∧ s.nthRead 1 = .frame B ∨ s.nthRead 0 = .frame B ∧ s.nthRead 1 = .frame A) →
    ∃ G, s.nthRead 1 = .frame G ∧
    exec .init s = .next
      { (s.afterWrites (requests s.cfg.raw)).afterReads 2 with
        hsSent := 4
        hscnt := 2
        fwack := true
        ltack := true
        init := true
        err := .none
        fwver := ⟨A.get s.cfg.raw.fwv0, A.get s.cfg.raw.fwv1, A.get s.cfg.raw.fwv2⟩
        rxf := memLoad s.rxf G
        rxBuf := [] }

/-- R197, R198, R201: INIT, when the transport takes the requests, succeeds at the read that brings the acknowledgement still missing,
be it read number `HS_MAX_READS`, if no read failed before it. `FWVER` is the version in the latest frame with the firmware tag: each
such frame rewrites it. Rests on decisions D15, D16, D28 of the spec and log entries 1, 16, 20. -/
def Obligations.InitSucceedsWhenBothAcknowledged : Prop :=
  ∀ (s : State) (j k : Nat) (F G : Frame),
    s.initEnabled = true → s.fwack = false → s.ltack = false → Memory.wf s.rxf = true →
    (∀ i < 4, s.nthWrite i = .ok) → j < k → k < s.cfg.raw.hsMaxReads → (∀ i < k, s.nthRead i ≠ .transportError) →
    s.nthRead j = .frame F → s.nthRead k = .frame G →
    (F.tag = (0x11, 0x01) ∧ G.tag = (0x21, 0x03) ∧ (∀ i < k, lacksTag (s.nthRead i) (0x21, 0x03)) ∨
      F.tag = (0x21, 0x03) ∧ G.tag = (0x11, 0x01) ∧ ∀ i < k, lacksTag (s.nthRead i) (0x11, 0x01)) →
    ∃ (i : Nat) (A : Frame),
    (i ≤ k ∧ s.nthRead i = .frame A ∧ A.tag = (0x11, 0x01) ∧
      ∀ l, i < l → l ≤ k → lacksTag (s.nthRead l) (0x11, 0x01)) ∧
    exec .init s = .next
      { (s.afterWrites (requests s.cfg.raw)).afterReads (k + 1) with
        hsSent := 4
        hscnt := k + 1
        fwack := true
        ltack := true
        init := true
        err := .none
        fwver := versionIn s.cfg.raw A
        rxf := memLoad s.rxf G
        rxBuf := [] }

/-- R203, R205: INIT, when the transport takes the requests and one of the two acknowledgements never comes, ends after `HS_MAX_READS`
reads in `HandshakeTimeout`. The flag of a tag that never came stays 0; the other one is set exactly if its tag came, `FWVER` is that
of the latest frame with the firmware tag, and `RXF` holds the latest frame, if any came.
Rests on decisions D15, D16 of the spec and log entries 1, 20. -/
def Obligations.InitTimesOut : Prop :=
  ∀ s : State,
    s.initEnabled = true → s.fwack = false → s.ltack = false → Memory.wf s.rxf = true →
    (∀ k < 4, s.nthWrite k = .ok) →
    (∀ k < s.cfg.raw.hsMaxReads, s.nthRead k ≠ .transportError) →
    ((∀ k < s.cfg.raw.hsMaxReads, lacksTag (s.nthRead k) (0x21, 0x03)) ∨
      ∀ k < s.cfg.raw.hsMaxReads, lacksTag (s.nthRead k) (0x11, 0x01)) →
    ∀ rs, rs = s.firstReads s.cfg.raw.hsMaxReads →
    exec .init s = .next
      { (s.afterWrites (requests s.cfg.raw)).afterReads s.cfg.raw.hsMaxReads with
        hsSent := 4
        hscnt := s.cfg.raw.hsMaxReads
        hsfail := true
        err := .handshakeTimeout
        fwack := sawTag (0x11, 0x01) rs
        ltack := sawTag (0x21, 0x03) rs
        fwver := versionAfter s.cfg.raw s.fwver rs
        rxf := bufferAfter s.rxf rs } ∧
    ((∀ k < s.cfg.raw.hsMaxReads, lacksTag (s.nthRead k) (0x11, 0x01)) → sawTag (0x11, 0x01) rs = false) ∧
    ((∀ k < s.cfg.raw.hsMaxReads, lacksTag (s.nthRead k) (0x21, 0x03)) → sawTag (0x21, 0x03) rs = false)

/-- R204: a write of request `k` that fails ends INIT at once with TransportError: the later requests are not sent and nothing is read.
Rests on decisions D15, D21 of the spec and log entries 1, 9, 20. -/
def Obligations.InitWriteFails : Prop :=
  ∀ (s : State) (k : Nat),
    s.initEnabled = true → s.fwack = false → s.ltack = false → k < 4 → (∀ j < k, s.nthWrite j = .ok) →
    s.nthWrite k = .transportError →
    exec .init s = .next
      { s.afterWrites ((requests s.cfg.raw).take k) with
        txf := memLoad ((s.afterWrites ((requests s.cfg.raw).take k)).txf) (hsReq s.cfg.raw k)
        devRx := s.devRx ++ (requests s.cfg.raw).take k
          ++ if Config.failedWriteReached (s.txN + k) then [hsReq s.cfg.raw k] else []
        txAns := s.txAns.drop (k + 1)
        txN := s.txN + (k + 1)
        hsSent := k
        hsfail := true
        err := .transportError }

/-- R204: a read that fails ends INIT at once with TransportError, as attempt number `k + 1`, if no earlier one failed and one of the
acknowledgements has not come yet. The flag of a tag that has not come stays 0; the other one is set exactly if its tag came, `FWVER`
is that of the latest frame with the firmware tag, and `RXF` holds the latest frame, if any came.
Rests on decisions D15, D16 of the spec and log entries 1, 20. -/
def Obligations.InitReadFails : Prop :=
  ∀ (s : State) (k : Nat),
    s.initEnabled = true → s.fwack = false → s.ltack = false → Memory.wf s.rxf = true →
    (∀ j < 4, s.nthWrite j = .ok) →
    k < s.cfg.raw.hsMaxReads → s.nthRead k = .transportError → (∀ j < k, s.nthRead j ≠ .transportError) →
    ((∀ j < k, lacksTag (s.nthRead j) (0x21, 0x03)) ∨ ∀ j < k, lacksTag (s.nthRead j) (0x11, 0x01)) →
    ∀ rs, rs = s.firstReads k →
    exec .init s = .next
      { (s.afterWrites (requests s.cfg.raw)).afterReads (k + 1) with
        hsSent := 4
        hscnt := k + 1
        hsfail := true
        err := .transportError
        fwack := sawTag (0x11, 0x01) rs
        ltack := sawTag (0x21, 0x03) rs
        fwver := versionAfter s.cfg.raw s.fwver rs
        rxf := bufferAfter s.rxf rs } ∧
    ((∀ j < k, lacksTag (s.nthRead j) (0x11, 0x01)) → sawTag (0x11, 0x01) rs = false) ∧
    ((∀ j < k, lacksTag (s.nthRead j) (0x21, 0x03)) → sawTag (0x21, 0x03) rs = false)

/-- R206, R251: INIT always ends, in success or in failure, after at most four writes and `HS_MAX_READS` reads, if every write
returns; the session lock, the burst sequencer and the waiting requests are as before (R207). Where the write of request `k` never
returns (U12), the requests before it are written and the handshake stands there, which is the model's choice
(notes/assumptions/11.md). Rests on decision D15 of the spec and log entries 1, 11, 20. -/
def Obligations.InitAlwaysEnds : Prop :=
  ∀ s : State, s.initEnabled = true → s.fwack = false → s.ltack = false →
    ((∀ k < 4, s.nthWrite k ≠ .never) →
      ∃ t, exec .init s = .next t ∧
        ((t.init = true ∧ t.hsfail = false ∧ t.err = .none ∧ t.fwack = true ∧ t.ltack = true) ∨
          (t.init = false ∧ t.hsfail = true ∧ (t.err = .transportError ∨ t.err = .handshakeTimeout))) ∧
        t.txN ≤ s.txN + 4 ∧ t.rxN ≤ s.rxN + s.cfg.raw.hsMaxReads ∧
        t.busy = s.busy ∧ t.fl = s.fl ∧ t.fi = s.fi ∧ t.latch = s.latch ∧ t.status = s.status ∧ t.port = s.port) ∧
    ∀ k < 4, (∀ j < k, s.nthWrite j = .ok) → s.nthWrite k = .never →
      exec .init s = .next { s.afterWrites ((requests s.cfg.raw).take k) with hsSent := k }

/-- R83, R196, R204: FWREQ, LTREQ, SETINT and LTCONF, each in its turn and with the configured frame, are written; a write that fails
ends the handshake; a write that never returns (U12) leaves the block where it is, which is the model's choice
(notes/assumptions/11.md). Rests on decisions D15, D21 of the spec and log entries 1, 9, 11, 20. -/
def Obligations.RequestFramesAreWritten : Prop :=
  ∀ (s : State) (i : Instr) (k : BitVec 2) (F : Frame),
    encode i = .request k F → s.uninit = true → s.hsSent = k.toNat → F = hsReq s.cfg.raw k.toNat →
    (s.writeAnswer = .ok →
      exec i s = .next
        { s with
          txf := memLoad s.txf F
          txlog := s.txlog ++ [F]
          devRx := s.devRx ++ [F]
          txAns := s.txAns.tail
          txN := s.txN + 1
          hsSent := s.hsSent + 1 }) ∧
    (s.writeAnswer = .transportError →
      exec i s = .next
        { s with
          txf := memLoad s.txf F
          devRx := s.devRx ++ if Config.failedWriteReached s.txN then [F] else []
          txAns := s.txAns.tail
          txN := s.txN + 1
          hsfail := true
          err := .transportError }) ∧
    (s.writeAnswer = .never → exec i s = .next s)

/-- R84, R199: FWINFO, received by the handshake's read loop, counts a read, gives the three bytes of the firmware version and sets
`FWACK`. Rests on decisions D15, D16 of the spec and log entries 1, 20. -/
def Obligations.FwinfoAcknowledges : Prop :=
  ∀ (s : State) (F : Frame),
    (Instr.fwinfo F).wellFormed = true → s.hsReading = true → Memory.wf s.rxf = true →
    exec (.fwinfo F) s = .next
      { s with
        hscnt := s.hscnt + 1
        rxf := memLoad s.rxf F
        fwver := ⟨F.get s.cfg.raw.fwv0, F.get s.cfg.raw.fwv1, F.get s.cfg.raw.fwv2⟩
        fwack := true }

/-- R85, R200: LTINFO, received by the handshake's read loop, counts a read and sets `LTACK`; no field of it is read.
Rests on decision D15 of the spec and log entries 1, 20. -/
def Obligations.LtinfoAcknowledges : Prop :=
  ∀ (s : State) (F : Frame),
    (Instr.ltinfo F).wellFormed = true → s.hsReading = true → Memory.wf s.rxf = true →
    exec (.ltinfo F) s = .next { s with hscnt := s.hscnt + 1, rxf := memLoad s.rxf F, ltack := true }

/-! ### The machine -/

/-- A step runs the decoded instruction: in a burst it is EMIT; in a handshake that a write left unfinished it is the handshake's next
move (the model's choice, notes/assumptions/11.md); otherwise it executes the instruction the first enabled request decodes to, in
the state without that request (that the first is served is the model's choice, notes/assumptions/2.md).
Rests on decision D19 of the spec and log entries 2, 11. -/
def Obligations.StepRunsDecodedInstruction : Prop :=
  ∀ s : State,
    (s.busy = true → step s = exec .emit s) ∧
    (s.busy = false → s.hsRunning = true → step s = .next (hsStep s)) ∧
    ∀ (before after : List PortWord) (q : PortWord) (i : Instr),
      s.busy = false → s.hsRunning = false → s.port = before ++ q :: after → (∀ p ∈ before, s.enabled p = false) →
      s.enabled q = true → decode (.port q) = .ok i →
      step s = exec i { s with port := before ++ after }

/-- R60, R222, D19: requests that are not enabled wait: where none is enabled and no burst or handshake is going on, a step changes
nothing, and a step of a burst or of a handshake leaves every waiting request in its place. (That a waiting block makes steps at all
is the model's choice, notes/assumptions/2.md.) Rests on decision D19 of the spec. -/
def Obligations.HeldRequestsWait : Prop :=
  ∀ s : State,
    (s.busy = false → s.hsRunning = false → (∀ p ∈ s.port, s.enabled p = false) → step s = .next s) ∧
    (∀ t, s.busy = true ∨ s.hsRunning = true → step s = .next t → t.port = s.port)

/-- R222: which requests each operating state enables. Rests on decisions D19, D27 of the spec. -/
def Obligations.OperatingStatesEnable : Prop :=
  ∀ s : State, s.Inv →
    (s.opState = .uninit → s.enabled .poll = false ∧ (∀ w, s.enabled (.cmd w) = false) ∧
      (s.enabled .init = true ↔ s.hscnt = 0 ∧ s.hsSent = 0)) ∧
    (s.opState = .ready → s.enabled .poll = true ∧ (∀ w, s.enabled (.cmd w) = true) ∧ s.enabled .init = false) ∧
    (s.opState = .burst → ∀ p, s.enabled p = false) ∧
    (s.opState = .dead → ∀ p, s.enabled p = false)

/-- R203: after the handshake has failed nothing is enabled until reset: no step changes anything any more.
Rests on decision D19 of the spec and log entry 2. -/
def Obligations.DeadStaysDead : Prop :=
  ∀ s : State, s.Inv → s.hsfail = true → ∀ k, Host.Core.run Sys2Proof.core k s = .next s

/-- R33: the values the spec gives at reset, and the defaults of the two configuration fields it decides (R6).
Rests on decisions D4, D6, D20 of the spec and log entry 4. -/
def Obligations.ResetState : Prop :=
  State.reset.fwack = false ∧ State.reset.ltack = false ∧ State.reset.init = false ∧ State.reset.hsfail = false ∧
  State.reset.busy = false ∧ State.reset.hscnt = 0 ∧ State.reset.err = .none ∧ State.reset.txlog = [] ∧
  State.reset.opState = .uninit ∧
  State.reset.cfg.raw.footerOrder = [.dir, .mode, .static, .count, .size] ∧ State.reset.cfg.raw.denseOverflow = .fault

/-- R240: another session begins with the values R33 gives, whatever the last one left and whatever the reopened transport holds and
answers; the configured tables stay (R33, R61), and the invariants hold. (What the reopened transport holds and answers is the
model's choice of form, notes/assumptions/15.md.) Rests on decision D20 of the spec and log entry 15. -/
def Obligations.NewSessionIsAReset : Prop :=
  ∀ (s t : State) (rxBuf : List Frame) (rxArr : List ReadAnswer) (txAns : List WriteAnswer),
    t = newSession s rxBuf rxArr txAns →
    t.fwack = false ∧ t.ltack = false ∧ t.init = false ∧ t.hsfail = false ∧ t.busy = false ∧ t.hscnt = 0 ∧
    t.err = .none ∧ t.txlog = [] ∧ t.opState = .uninit ∧ t.initEnabled = true ∧ t.cfg = s.cfg ∧
    t.Inv ∧ LogShape t ∧ DeviceOrder t ∧
    (∀ k < txAns.length, some (t.nthWrite k) = txAns[k]?) ∧
    (∀ k < rxBuf.length, (rxBuf[k]?).map .frame = some (t.nthRead k)) ∧
    ∀ k < rxArr.length, some (t.nthRead (rxBuf.length + k)) = rxArr[k]?

/-- The invariants hold at reset. Rests on decision D20 of the spec and log entry 6. -/
def Obligations.ResetSatisfiesTheInvariants : Prop :=
  State.reset.Inv ∧ LogShape State.reset ∧ DeviceOrder State.reset

/-- Every step keeps the invariant of the block's state. Rests on decisions D2, D15 of the spec. -/
def Obligations.StepKeepsInv : Prop :=
  ∀ s t : State, s.Inv → step s = .next t → t.Inv

/-- Every instruction of the table, executed in any state, keeps the invariant of the block's state.
Rests on decisions D2, D15 of the spec. -/
def Obligations.ExecKeepsInv : Prop :=
  ∀ (i : Instr) (s t : State), s.Inv → exec i s = .next t → t.Inv

/-- No step from a state with the invariant faults or is refused: the machine always goes on. Rests on log entry 13. -/
def Obligations.InvariantStatesAreFaultFree : Prop :=
  ∀ s : State, s.Inv → ∃ t, step s = .next t

/-- R58: every step keeps the shape of `TXLOG` and only extends its bursts: the handshake's requests, then the past bursts of the
session, whole but for at most one abandoned burst per write of the session that did not succeed, then the part already sent of the
burst in progress. The past bursts of `t` are those of `s`, and after them, where the step ends the burst in progress, that burst:
whole if the write succeeded, and without the frames left if it failed. Rests on decision D21 of the spec and log entry 19. -/
def Obligations.StepKeepsLogShape : Prop :=
  ∀ (s t : State) (bs : List PastBurst), s.Inv → LogShapeOf s bs → step s = .next t →
    ∃ bs', LogShapeOf t bs' ∧ ExtendsBursts s t bs bs'

/-- R31, R57: every step only appends to `TXLOG` and to what reached the device, and what reached the device has the frames of `TXLOG`
in `TXLOG`'s order. That order is the model's: R58 (iv) says that the block assumes it and cannot check it, and the list of frames
that reached the device is built so (notes/assumptions/15.md). Rests on decision D21 of the spec and log entries 9, 15. -/
def Obligations.StepKeepsDeviceOrder : Prop :=
  ∀ s t : State, DeviceOrder s → step s = .next t → DeviceOrder t ∧ s.txlog <+: t.txlog ∧ s.devRx <+: t.devRx

/-- R24: each flag is written only by the step it names, be it an instruction or the next move of a handshake that a write left
unfinished: there the two acknowledgements are set only by a read that returns a frame with their tag, `INIT` only when both are set,
and `HSFAIL` only by a write or a read that fails or when the reads are used up. Nothing else of a step writes a flag
(Obligations.StepRunsDecodedInstruction). Rests on decisions D15, D21 of the spec and log entries 1, 11. -/
def Obligations.FlagsAreWrittenOnlyByTheirSteps : Prop :=
  (∀ (i : Instr) (s t : State), i.wellFormed = true → Memory.wf s.rxf = true → exec i s = .next t →
    (t.fwack ≠ s.fwack → t.fwack = true ∧ (i = .init ∨ ∃ F, i = .fwinfo F)) ∧
    (t.ltack ≠ s.ltack → t.ltack = true ∧ (i = .init ∨ ∃ F, i = .ltinfo F)) ∧
    (t.init ≠ s.init → t.init = true ∧ i = .init) ∧
    (t.hsfail ≠ s.hsfail → t.hsfail = true ∧ (i = .init ∨ ∃ k F, encode i = .request k F)) ∧
    (t.busy ≠ s.busy → t.busy = true ∧ (∃ e a, i = Instr.ofEffect e a) ∨
      t.busy = false ∧ (i = .emit ∨ ∃ F, encode i = .sent F))) ∧
  ∀ s t : State, s.Inv → s.busy = false → s.hsRunning = true → step s = .next t →
    (t.fwack ≠ s.fwack → t.fwack = true ∧ s.hsReading = true ∧ ∃ F, s.readAnswer = .frame F ∧ F.tag = (0x11, 0x01)) ∧
    (t.ltack ≠ s.ltack → t.ltack = true ∧ s.hsReading = true ∧ ∃ F, s.readAnswer = .frame F ∧ F.tag = (0x21, 0x03)) ∧
    (t.init ≠ s.init → t.init = true ∧ s.fwack = true ∧ s.ltack = true) ∧
    (t.hsfail ≠ s.hsfail → t.hsfail = true ∧
      (s.hsSent < 4 ∧ s.writeAnswer = .transportError ∧ t.err = .transportError ∨
        s.hsReading = true ∧ s.readAnswer = .transportError ∧ t.err = .transportError ∨
        (s.fwack = false ∨ s.ltack = false) ∧ s.hscnt = s.cfg.raw.hsMaxReads ∧ t.err = .handshakeTimeout)) ∧
    t.busy = s.busy

/-- R61: no instruction and no step writes the configured tables. -/
def Obligations.TablesAreNeverWritten : Prop :=
  (∀ (i : Instr) (s t : State), exec i s = .next t → t.cfg = s.cfg) ∧
  ∀ s t : State, step s = .next t → t.cfg = s.cfg

/-- R6, R7: under a well-formed configuration every effect has a catalog row with a speed class of 0..11, and every speed class of
0..11 has a timing entry at each of the five levels. Rests on decision D29 of the spec. -/
def Obligations.TablesAreTotal : Prop :=
  ∀ c : Cfg,
    (∀ e : Effect, ∃ m, c.raw.row e = some m ∧ m.speedClass < 12) ∧ ∀ k < 12, ∀ l ≤ 4, ∃ t, c.raw.timingOf k l = some t

/-- R219: the numbers on the error port. Rests on decision D17 of the spec. -/
def Obligations.ErrorCodes : Prop :=
  Err.none.code = 0 ∧
  (∀ n lo hi, (Err.encode (.invalidColorCount .tooFew n lo hi)).code = 1) ∧
  (∀ n lo hi, (Err.encode (.invalidColorCount .noneNeeded n lo hi)).code = 2) ∧
  (∀ n lo hi, (Err.encode (.invalidColorCount .tooMany n lo hi)).code = 3) ∧
  (∀ c, (Err.encode (.unknownEffect c)).code = 4) ∧
  (∀ k s, (Err.encode (.invalidSpeedIndex k s)).code = 5) ∧
  (∀ p n, (Err.encode (.frameOverflow p n)).code = 6) ∧
  Err.transportError.code = 7 ∧ Err.timeout.code = 8 ∧ Err.handshakeTimeout.code = 9
end

