-- ==== Sys2Proof/Laws/State.lean ====
section
/-! SUPPORT. What each update of the state leaves in each field, one lemma per field per update, so that no proof unfolds a
record update. -/

namespace Sys2Proof.Machine

@[simp] theorem raise_cfg (e : Err) (s : State) : (raise e s).cfg = s.cfg := rfl
@[simp] theorem raise_latch (e : Err) (s : State) : (raise e s).latch = s.latch := rfl
@[simp] theorem raise_fl (e : Err) (s : State) : (raise e s).fl = s.fl := rfl
@[simp] theorem raise_fi (e : Err) (s : State) : (raise e s).fi = s.fi := rfl
@[simp] theorem raise_fwack (e : Err) (s : State) : (raise e s).fwack = s.fwack := rfl
@[simp] theorem raise_ltack (e : Err) (s : State) : (raise e s).ltack = s.ltack := rfl
@[simp] theorem raise_init (e : Err) (s : State) : (raise e s).init = s.init := rfl
@[simp] theorem raise_hsfail (e : Err) (s : State) : (raise e s).hsfail = s.hsfail := rfl
@[simp] theorem raise_busy (e : Err) (s : State) : (raise e s).busy = s.busy := rfl
@[simp] theorem raise_err (e : Err) (s : State) : (raise e s).err = e := rfl
@[simp] theorem raise_fwver (e : Err) (s : State) : (raise e s).fwver = s.fwver := rfl
@[simp] theorem raise_status (e : Err) (s : State) : (raise e s).status = s.status := rfl
@[simp] theorem raise_hscnt (e : Err) (s : State) : (raise e s).hscnt = s.hscnt := rfl
@[simp] theorem raise_hsSent (e : Err) (s : State) : (raise e s).hsSent = s.hsSent := rfl
@[simp] theorem raise_txf (e : Err) (s : State) : (raise e s).txf = s.txf := rfl
@[simp] theorem raise_rxf (e : Err) (s : State) : (raise e s).rxf = s.rxf := rfl
@[simp] theorem raise_txlog (e : Err) (s : State) : (raise e s).txlog = s.txlog := rfl
@[simp] theorem raise_rxBuf (e : Err) (s : State) : (raise e s).rxBuf = s.rxBuf := rfl
@[simp] theorem raise_rxArr (e : Err) (s : State) : (raise e s).rxArr = s.rxArr := rfl
@[simp] theorem raise_rxN (e : Err) (s : State) : (raise e s).rxN = s.rxN := rfl
@[simp] theorem raise_txAns (e : Err) (s : State) : (raise e s).txAns = s.txAns := rfl
@[simp] theorem raise_txN (e : Err) (s : State) : (raise e s).txN = s.txN := rfl
@[simp] theorem raise_txStart (e : Err) (s : State) : (raise e s).txStart = s.txStart := rfl
@[simp] theorem raise_devRx (e : Err) (s : State) : (raise e s).devRx = s.devRx := rfl
@[simp] theorem raise_devHavoc (e : Err) (s : State) : (raise e s).devHavoc = s.devHavoc := rfl
@[simp] theorem raise_port (e : Err) (s : State) : (raise e s).port = s.port := rfl

@[simp] theorem wrote_cfg (F : Frame) (s : State) : (wrote F s).cfg = s.cfg := rfl
@[simp] theorem wrote_latch (F : Frame) (s : State) : (wrote F s).latch = s.latch := rfl
@[simp] theorem wrote_fl (F : Frame) (s : State) : (wrote F s).fl = s.fl := rfl
@[simp] theorem wrote_fi (F : Frame) (s : State) : (wrote F s).fi = s.fi := rfl
@[simp] theorem wrote_fwack (F : Frame) (s : State) : (wrote F s).fwack = s.fwack := rfl
@[simp] theorem wrote_ltack (F : Frame) (s : State) : (wrote F s).ltack = s.ltack := rfl
@[simp] theorem wrote_init (F : Frame) (s : State) : (wrote F s).init = s.init := rfl
@[simp] theorem wrote_hsfail (F : Frame) (s : State) : (wrote F s).hsfail = s.hsfail := rfl
@[simp] theorem wrote_busy (F : Frame) (s : State) : (wrote F s).busy = s.busy := rfl
@[simp] theorem wrote_err (F : Frame) (s : State) : (wrote F s).err = s.err := rfl
@[simp] theorem wrote_fwver (F : Frame) (s : State) : (wrote F s).fwver = s.fwver := rfl
@[simp] theorem wrote_status (F : Frame) (s : State) : (wrote F s).status = s.status := rfl
@[simp] theorem wrote_hscnt (F : Frame) (s : State) : (wrote F s).hscnt = s.hscnt := rfl
@[simp] theorem wrote_hsSent (F : Frame) (s : State) : (wrote F s).hsSent = s.hsSent := rfl
@[simp] theorem wrote_txf (F : Frame) (s : State) : (wrote F s).txf = memLoad s.txf F := rfl
@[simp] theorem wrote_rxf (F : Frame) (s : State) : (wrote F s).rxf = s.rxf := rfl
@[simp] theorem wrote_txlog (F : Frame) (s : State) : (wrote F s).txlog = s.txlog ++ [F] := rfl
@[simp] theorem wrote_rxBuf (F : Frame) (s : State) : (wrote F s).rxBuf = s.rxBuf := rfl
@[simp] theorem wrote_rxArr (F : Frame) (s : State) : (wrote F s).rxArr = s.rxArr := rfl
@[simp] theorem wrote_rxN (F : Frame) (s : State) : (wrote F s).rxN = s.rxN := rfl
@[simp] theorem wrote_txAns (F : Frame) (s : State) : (wrote F s).txAns = s.txAns.tail := rfl
@[simp] theorem wrote_txN (F : Frame) (s : State) : (wrote F s).txN = s.txN + 1 := rfl
@[simp] theorem wrote_txStart (F : Frame) (s : State) : (wrote F s).txStart = s.txStart := rfl
@[simp] theorem wrote_devRx (F : Frame) (s : State) : (wrote F s).devRx = s.devRx ++ [F] := rfl
@[simp] theorem wrote_devHavoc (F : Frame) (s : State) : (wrote F s).devHavoc = s.devHavoc := rfl
@[simp] theorem wrote_port (F : Frame) (s : State) : (wrote F s).port = s.port := rfl

@[simp] theorem writeFailed_cfg (F : Frame) (s : State) : (writeFailed F s).cfg = s.cfg := rfl
@[simp] theorem writeFailed_latch (F : Frame) (s : State) : (writeFailed F s).latch = s.latch := rfl
@[simp] theorem writeFailed_fl (F : Frame) (s : State) : (writeFailed F s).fl = s.fl := rfl
@[simp] theorem writeFailed_fi (F : Frame) (s : State) : (writeFailed F s).fi = s.fi := rfl
@[simp] theorem writeFailed_fwack (F : Frame) (s : State) : (writeFailed F s).fwack = s.fwack := rfl
@[simp] theorem writeFailed_ltack (F : Frame) (s : State) : (writeFailed F s).ltack = s.ltack := rfl
@[simp] theorem writeFailed_init (F : Frame) (s : State) : (writeFailed F s).init = s.init := rfl
@[simp] theorem writeFailed_hsfail (F : Frame) (s : State) : (writeFailed F s).hsfail = s.hsfail := rfl
@[simp] theorem writeFailed_busy (F : Frame) (s : State) : (writeFailed F s).busy = s.busy := rfl
@[simp] theorem writeFailed_err (F : Frame) (s : State) : (writeFailed F s).err = s.err := rfl
@[simp] theorem writeFailed_fwver (F : Frame) (s : State) : (writeFailed F s).fwver = s.fwver := rfl
@[simp] theorem writeFailed_status (F : Frame) (s : State) : (writeFailed F s).status = s.status := rfl
@[simp] theorem writeFailed_hscnt (F : Frame) (s : State) : (writeFailed F s).hscnt = s.hscnt := rfl
@[simp] theorem writeFailed_hsSent (F : Frame) (s : State) : (writeFailed F s).hsSent = s.hsSent := rfl
@[simp] theorem writeFailed_txf (F : Frame) (s : State) : (writeFailed F s).txf = memLoad s.txf F := rfl
@[simp] theorem writeFailed_rxf (F : Frame) (s : State) : (writeFailed F s).rxf = s.rxf := rfl
@[simp] theorem writeFailed_txlog (F : Frame) (s : State) : (writeFailed F s).txlog = s.txlog := rfl
@[simp] theorem writeFailed_rxBuf (F : Frame) (s : State) : (writeFailed F s).rxBuf = s.rxBuf := rfl
@[simp] theorem writeFailed_rxArr (F : Frame) (s : State) : (writeFailed F s).rxArr = s.rxArr := rfl
@[simp] theorem writeFailed_rxN (F : Frame) (s : State) : (writeFailed F s).rxN = s.rxN := rfl
@[simp] theorem writeFailed_txAns (F : Frame) (s : State) : (writeFailed F s).txAns = s.txAns.tail := rfl
@[simp] theorem writeFailed_txN (F : Frame) (s : State) : (writeFailed F s).txN = s.txN + 1 := rfl
@[simp] theorem writeFailed_txStart (F : Frame) (s : State) : (writeFailed F s).txStart = s.txStart := rfl
@[simp] theorem writeFailed_devRx (F : Frame) (s : State) : (writeFailed F s).devRx = s.devRx ++ (if Config.failedWriteReached s.txN then [F] else []) := rfl
@[simp] theorem writeFailed_devHavoc (F : Frame) (s : State) : (writeFailed F s).devHavoc = s.devHavoc := rfl
@[simp] theorem writeFailed_port (F : Frame) (s : State) : (writeFailed F s).port = s.port := rfl

@[simp] theorem latchWrite_cfg (eff : BitVec 6) (a : CmdArgs) (s : State) : (latchWrite eff a s).cfg = s.cfg := rfl
@[simp] theorem latchWrite_latch (eff : BitVec 6) (a : CmdArgs) (s : State) : (latchWrite eff a s).latch = ⟨a.ch, eff, a.spd, a.n, ColourRegs.load s.latch.col a.col a.n.toNat⟩ := rfl
@[simp] theorem latchWrite_fl (eff : BitVec 6) (a : CmdArgs) (s : State) : (latchWrite eff a s).fl = s.fl := rfl
@[simp] theorem latchWrite_fi (eff : BitVec 6) (a : CmdArgs) (s : State) : (latchWrite eff a s).fi = s.fi := rfl
@[simp] theorem latchWrite_fwack (eff : BitVec 6) (a : CmdArgs) (s : State) : (latchWrite eff a s).fwack = s.fwack := rfl
@[simp] theorem latchWrite_ltack (eff : BitVec 6) (a : CmdArgs) (s : State) : (latchWrite eff a s).ltack = s.ltack := rfl
@[simp] theorem latchWrite_init (eff : BitVec 6) (a : CmdArgs) (s : State) : (latchWrite eff a s).init = s.init := rfl
@[simp] theorem latchWrite_hsfail (eff : BitVec 6) (a : CmdArgs) (s : State) : (latchWrite eff a s).hsfail = s.hsfail := rfl
@[simp] theorem latchWrite_busy (eff : BitVec 6) (a : CmdArgs) (s : State) : (latchWrite eff a s).busy = s.busy := rfl
@[simp] theorem latchWrite_err (eff : BitVec 6) (a : CmdArgs) (s : State) : (latchWrite eff a s).err = s.err := rfl
@[simp] theorem latchWrite_fwver (eff : BitVec 6) (a : CmdArgs) (s : State) : (latchWrite eff a s).fwver = s.fwver := rfl
@[simp] theorem latchWrite_status (eff : BitVec 6) (a : CmdArgs) (s : State) : (latchWrite eff a s).status = s.status := rfl
@[simp] theorem latchWrite_hscnt (eff : BitVec 6) (a : CmdArgs) (s : State) : (latchWrite eff a s).hscnt = s.hscnt := rfl
@[simp] theorem latchWrite_hsSent (eff : BitVec 6) (a : CmdArgs) (s : State) : (latchWrite eff a s).hsSent = s.hsSent := rfl
@[simp] theorem latchWrite_txf (eff : BitVec 6) (a : CmdArgs) (s : State) : (latchWrite eff a s).txf = s.txf := rfl
@[simp] theorem latchWrite_rxf (eff : BitVec 6) (a : CmdArgs) (s : State) : (latchWrite eff a s).rxf = s.rxf := rfl
@[simp] theorem latchWrite_txlog (eff : BitVec 6) (a : CmdArgs) (s : State) : (latchWrite eff a s).txlog = s.txlog := rfl
@[simp] theorem latchWrite_rxBuf (eff : BitVec 6) (a : CmdArgs) (s : State) : (latchWrite eff a s).rxBuf = s.rxBuf := rfl
@[simp] theorem latchWrite_rxArr (eff : BitVec 6) (a : CmdArgs) (s : State) : (latchWrite eff a s).rxArr = s.rxArr := rfl
@[simp] theorem latchWrite_rxN (eff : BitVec 6) (a : CmdArgs) (s : State) : (latchWrite eff a s).rxN = s.rxN := rfl
@[simp] theorem latchWrite_txAns (eff : BitVec 6) (a : CmdArgs) (s : State) : (latchWrite eff a s).txAns = s.txAns := rfl
@[simp] theorem latchWrite_txN (eff : BitVec 6) (a : CmdArgs) (s : State) : (latchWrite eff a s).txN = s.txN := rfl
@[simp] theorem latchWrite_txStart (eff : BitVec 6) (a : CmdArgs) (s : State) : (latchWrite eff a s).txStart = s.txStart := rfl
@[simp] theorem latchWrite_devRx (eff : BitVec 6) (a : CmdArgs) (s : State) : (latchWrite eff a s).devRx = s.devRx := rfl
@[simp] theorem latchWrite_devHavoc (eff : BitVec 6) (a : CmdArgs) (s : State) : (latchWrite eff a s).devHavoc = s.devHavoc := rfl
@[simp] theorem latchWrite_port (eff : BitVec 6) (a : CmdArgs) (s : State) : (latchWrite eff a s).port = s.port := rfl

@[simp] theorem loadBurst_cfg (fl : List Frame) (s : State) : (loadBurst fl s).cfg = s.cfg := rfl
@[simp] theorem loadBurst_latch (fl : List Frame) (s : State) : (loadBurst fl s).latch = s.latch := rfl
@[simp] theorem loadBurst_fl (fl : List Frame) (s : State) : (loadBurst fl s).fl = fl := rfl
@[simp] theorem loadBurst_fi (fl : List Frame) (s : State) : (loadBurst fl s).fi = 0 := rfl
@[simp] theorem loadBurst_fwack (fl : List Frame) (s : State) : (loadBurst fl s).fwack = s.fwack := rfl
@[simp] theorem loadBurst_ltack (fl : List Frame) (s : State) : (loadBurst fl s).ltack = s.ltack := rfl
@[simp] theorem loadBurst_init (fl : List Frame) (s : State) : (loadBurst fl s).init = s.init := rfl
@[simp] theorem loadBurst_hsfail (fl : List Frame) (s : State) : (loadBurst fl s).hsfail = s.hsfail := rfl
@[simp] theorem loadBurst_busy (fl : List Frame) (s : State) : (loadBurst fl s).busy = true := rfl
@[simp] theorem loadBurst_err (fl : List Frame) (s : State) : (loadBurst fl s).err = .none := rfl
@[simp] theorem loadBurst_fwver (fl : List Frame) (s : State) : (loadBurst fl s).fwver = s.fwver := rfl
@[simp] theorem loadBurst_status (fl : List Frame) (s : State) : (loadBurst fl s).status = s.status := rfl
@[simp] theorem loadBurst_hscnt (fl : List Frame) (s : State) : (loadBurst fl s).hscnt = s.hscnt := rfl
@[simp] theorem loadBurst_hsSent (fl : List Frame) (s : State) : (loadBurst fl s).hsSent = s.hsSent := rfl
@[simp] theorem loadBurst_txf (fl : List Frame) (s : State) : (loadBurst fl s).txf = s.txf := rfl
@[simp] theorem loadBurst_rxf (fl : List Frame) (s : State) : (loadBurst fl s).rxf = s.rxf := rfl
@[simp] theorem loadBurst_txlog (fl : List Frame) (s : State) : (loadBurst fl s).txlog = s.txlog := rfl
@[simp] theorem loadBurst_rxBuf (fl : List Frame) (s : State) : (loadBurst fl s).rxBuf = s.rxBuf := rfl
@[simp] theorem loadBurst_rxArr (fl : List Frame) (s : State) : (loadBurst fl s).rxArr = s.rxArr := rfl
@[simp] theorem loadBurst_rxN (fl : List Frame) (s : State) : (loadBurst fl s).rxN = s.rxN := rfl
@[simp] theorem loadBurst_txAns (fl : List Frame) (s : State) : (loadBurst fl s).txAns = s.txAns := rfl
@[simp] theorem loadBurst_txN (fl : List Frame) (s : State) : (loadBurst fl s).txN = s.txN := rfl
@[simp] theorem loadBurst_txStart (fl : List Frame) (s : State) : (loadBurst fl s).txStart = s.txStart := rfl
@[simp] theorem loadBurst_devRx (fl : List Frame) (s : State) : (loadBurst fl s).devRx = s.devRx := rfl
@[simp] theorem loadBurst_devHavoc (fl : List Frame) (s : State) : (loadBurst fl s).devHavoc = s.devHavoc := rfl
@[simp] theorem loadBurst_port (fl : List Frame) (s : State) : (loadBurst fl s).port = s.port := rfl

@[simp] theorem abandon_cfg (s : State) : (abandon s).cfg = s.cfg := rfl
@[simp] theorem abandon_latch (s : State) : (abandon s).latch = s.latch := rfl
@[simp] theorem abandon_fl (s : State) : (abandon s).fl = s.fl := rfl
@[simp] theorem abandon_fi (s : State) : (abandon s).fi = s.fi := rfl
@[simp] theorem abandon_fwack (s : State) : (abandon s).fwack = s.fwack := rfl
@[simp] theorem abandon_ltack (s : State) : (abandon s).ltack = s.ltack := rfl
@[simp] theorem abandon_init (s : State) : (abandon s).init = s.init := rfl
@[simp] theorem abandon_hsfail (s : State) : (abandon s).hsfail = s.hsfail := rfl
@[simp] theorem abandon_busy (s : State) : (abandon s).busy = false := rfl
@[simp] theorem abandon_err (s : State) : (abandon s).err = .transportError := rfl
@[simp] theorem abandon_fwver (s : State) : (abandon s).fwver = s.fwver := rfl
@[simp] theorem abandon_status (s : State) : (abandon s).status = s.status := rfl
@[simp] theorem abandon_hscnt (s : State) : (abandon s).hscnt = s.hscnt := rfl
@[simp] theorem abandon_hsSent (s : State) : (abandon s).hsSent = s.hsSent := rfl
@[simp] theorem abandon_txf (s : State) : (abandon s).txf = s.txf := rfl
@[simp] theorem abandon_rxf (s : State) : (abandon s).rxf = s.rxf := rfl
@[simp] theorem abandon_txlog (s : State) : (abandon s).txlog = s.txlog := rfl
@[simp] theorem abandon_rxBuf (s : State) : (abandon s).rxBuf = s.rxBuf := rfl
@[simp] theorem abandon_rxArr (s : State) : (abandon s).rxArr = s.rxArr := rfl
@[simp] theorem abandon_rxN (s : State) : (abandon s).rxN = s.rxN := rfl
@[simp] theorem abandon_txAns (s : State) : (abandon s).txAns = s.txAns := rfl
@[simp] theorem abandon_txN (s : State) : (abandon s).txN = s.txN := rfl
@[simp] theorem abandon_txStart (s : State) : (abandon s).txStart = s.txStart := rfl
@[simp] theorem abandon_devRx (s : State) : (abandon s).devRx = s.devRx := rfl
@[simp] theorem abandon_devHavoc (s : State) : (abandon s).devHavoc = true := rfl
@[simp] theorem abandon_port (s : State) : (abandon s).port = s.port := rfl

@[simp] theorem receive_cfg (F : Frame) (s : State) : (receive F s).cfg = s.cfg := rfl
@[simp] theorem receive_latch (F : Frame) (s : State) : (receive F s).latch = s.latch := rfl
@[simp] theorem receive_fl (F : Frame) (s : State) : (receive F s).fl = s.fl := rfl
@[simp] theorem receive_fi (F : Frame) (s : State) : (receive F s).fi = s.fi := rfl
@[simp] theorem receive_fwack (F : Frame) (s : State) : (receive F s).fwack = s.fwack := rfl
@[simp] theorem receive_ltack (F : Frame) (s : State) : (receive F s).ltack = s.ltack := rfl
@[simp] theorem receive_init (F : Frame) (s : State) : (receive F s).init = s.init := rfl
@[simp] theorem receive_hsfail (F : Frame) (s : State) : (receive F s).hsfail = s.hsfail := rfl
@[simp] theorem receive_busy (F : Frame) (s : State) : (receive F s).busy = s.busy := rfl
@[simp] theorem receive_err (F : Frame) (s : State) : (receive F s).err = s.err := rfl
@[simp] theorem receive_fwver (F : Frame) (s : State) : (receive F s).fwver = s.fwver := rfl
@[simp] theorem receive_status (F : Frame) (s : State) : (receive F s).status = s.status := rfl
@[simp] theorem receive_hscnt (F : Frame) (s : State) : (receive F s).hscnt = s.hscnt := rfl
@[simp] theorem receive_hsSent (F : Frame) (s : State) : (receive F s).hsSent = s.hsSent := rfl
@[simp] theorem receive_txf (F : Frame) (s : State) : (receive F s).txf = s.txf := rfl
@[simp] theorem receive_rxf (F : Frame) (s : State) : (receive F s).rxf = memLoad s.rxf F := rfl
@[simp] theorem receive_txlog (F : Frame) (s : State) : (receive F s).txlog = s.txlog := rfl
@[simp] theorem receive_rxBuf (F : Frame) (s : State) : (receive F s).rxBuf = s.rxBuf := rfl
@[simp] theorem receive_rxArr (F : Frame) (s : State) : (receive F s).rxArr = s.rxArr := rfl
@[simp] theorem receive_rxN (F : Frame) (s : State) : (receive F s).rxN = s.rxN := rfl
@[simp] theorem receive_txAns (F : Frame) (s : State) : (receive F s).txAns = s.txAns := rfl
@[simp] theorem receive_txN (F : Frame) (s : State) : (receive F s).txN = s.txN := rfl
@[simp] theorem receive_txStart (F : Frame) (s : State) : (receive F s).txStart = s.txStart := rfl
@[simp] theorem receive_devRx (F : Frame) (s : State) : (receive F s).devRx = s.devRx := rfl
@[simp] theorem receive_devHavoc (F : Frame) (s : State) : (receive F s).devHavoc = s.devHavoc := rfl
@[simp] theorem receive_port (F : Frame) (s : State) : (receive F s).port = s.port := rfl

@[simp] theorem takeStatus_cfg (F : Frame) (s : State) : (takeStatus F s).cfg = s.cfg := rfl
@[simp] theorem takeStatus_latch (F : Frame) (s : State) : (takeStatus F s).latch = s.latch := rfl
@[simp] theorem takeStatus_fl (F : Frame) (s : State) : (takeStatus F s).fl = s.fl := rfl
@[simp] theorem takeStatus_fi (F : Frame) (s : State) : (takeStatus F s).fi = s.fi := rfl
@[simp] theorem takeStatus_fwack (F : Frame) (s : State) : (takeStatus F s).fwack = s.fwack := rfl
@[simp] theorem takeStatus_ltack (F : Frame) (s : State) : (takeStatus F s).ltack = s.ltack := rfl
@[simp] theorem takeStatus_init (F : Frame) (s : State) : (takeStatus F s).init = s.init := rfl
@[simp] theorem takeStatus_hsfail (F : Frame) (s : State) : (takeStatus F s).hsfail = s.hsfail := rfl
@[simp] theorem takeStatus_busy (F : Frame) (s : State) : (takeStatus F s).busy = s.busy := rfl
@[simp] theorem takeStatus_err (F : Frame) (s : State) : (takeStatus F s).err = .none := rfl
@[simp] theorem takeStatus_fwver (F : Frame) (s : State) : (takeStatus F s).fwver = s.fwver := rfl
@[simp] theorem takeStatus_status (F : Frame) (s : State) : (takeStatus F s).status = decodeStatus s.cfg.raw (memLoad s.rxf F) := rfl
@[simp] theorem takeStatus_hscnt (F : Frame) (s : State) : (takeStatus F s).hscnt = s.hscnt := rfl
@[simp] theorem takeStatus_hsSent (F : Frame) (s : State) : (takeStatus F s).hsSent = s.hsSent := rfl
@[simp] theorem takeStatus_txf (F : Frame) (s : State) : (takeStatus F s).txf = s.txf := rfl
@[simp] theorem takeStatus_rxf (F : Frame) (s : State) : (takeStatus F s).rxf = memLoad s.rxf F := rfl
@[simp] theorem takeStatus_txlog (F : Frame) (s : State) : (takeStatus F s).txlog = s.txlog := rfl
@[simp] theorem takeStatus_rxBuf (F : Frame) (s : State) : (takeStatus F s).rxBuf = s.rxBuf := rfl
@[simp] theorem takeStatus_rxArr (F : Frame) (s : State) : (takeStatus F s).rxArr = s.rxArr := rfl
@[simp] theorem takeStatus_rxN (F : Frame) (s : State) : (takeStatus F s).rxN = s.rxN := rfl
@[simp] theorem takeStatus_txAns (F : Frame) (s : State) : (takeStatus F s).txAns = s.txAns := rfl
@[simp] theorem takeStatus_txN (F : Frame) (s : State) : (takeStatus F s).txN = s.txN := rfl
@[simp] theorem takeStatus_txStart (F : Frame) (s : State) : (takeStatus F s).txStart = s.txStart := rfl
@[simp] theorem takeStatus_devRx (F : Frame) (s : State) : (takeStatus F s).devRx = s.devRx := rfl
@[simp] theorem takeStatus_devHavoc (F : Frame) (s : State) : (takeStatus F s).devHavoc = s.devHavoc := rfl
@[simp] theorem takeStatus_port (F : Frame) (s : State) : (takeStatus F s).port = s.port := rfl

@[simp] theorem hsFail_cfg (e : Err) (s : State) : (hsFail e s).cfg = s.cfg := rfl
@[simp] theorem hsFail_latch (e : Err) (s : State) : (hsFail e s).latch = s.latch := rfl
@[simp] theorem hsFail_fl (e : Err) (s : State) : (hsFail e s).fl = s.fl := rfl
@[simp] theorem hsFail_fi (e : Err) (s : State) : (hsFail e s).fi = s.fi := rfl
@[simp] theorem hsFail_fwack (e : Err) (s : State) : (hsFail e s).fwack = s.fwack := rfl
@[simp] theorem hsFail_ltack (e : Err) (s : State) : (hsFail e s).ltack = s.ltack := rfl
@[simp] theorem hsFail_init (e : Err) (s : State) : (hsFail e s).init = s.init := rfl
@[simp] theorem hsFail_hsfail (e : Err) (s : State) : (hsFail e s).hsfail = true := rfl
@[simp] theorem hsFail_busy (e : Err) (s : State) : (hsFail e s).busy = s.busy := rfl
@[simp] theorem hsFail_err (e : Err) (s : State) : (hsFail e s).err = e := rfl
@[simp] theorem hsFail_fwver (e : Err) (s : State) : (hsFail e s).fwver = s.fwver := rfl
@[simp] theorem hsFail_status (e : Err) (s : State) : (hsFail e s).status = s.status := rfl
@[simp] theorem hsFail_hscnt (e : Err) (s : State) : (hsFail e s).hscnt = s.hscnt := rfl
@[simp] theorem hsFail_hsSent (e : Err) (s : State) : (hsFail e s).hsSent = s.hsSent := rfl
@[simp] theorem hsFail_txf (e : Err) (s : State) : (hsFail e s).txf = s.txf := rfl
@[simp] theorem hsFail_rxf (e : Err) (s : State) : (hsFail e s).rxf = s.rxf := rfl
@[simp] theorem hsFail_txlog (e : Err) (s : State) : (hsFail e s).txlog = s.txlog := rfl
@[simp] theorem hsFail_rxBuf (e : Err) (s : State) : (hsFail e s).rxBuf = s.rxBuf := rfl
@[simp] theorem hsFail_rxArr (e : Err) (s : State) : (hsFail e s).rxArr = s.rxArr := rfl
@[simp] theorem hsFail_rxN (e : Err) (s : State) : (hsFail e s).rxN = s.rxN := rfl
@[simp] theorem hsFail_txAns (e : Err) (s : State) : (hsFail e s).txAns = s.txAns := rfl
@[simp] theorem hsFail_txN (e : Err) (s : State) : (hsFail e s).txN = s.txN := rfl
@[simp] theorem hsFail_txStart (e : Err) (s : State) : (hsFail e s).txStart = s.txStart := rfl
@[simp] theorem hsFail_devRx (e : Err) (s : State) : (hsFail e s).devRx = s.devRx := rfl
@[simp] theorem hsFail_devHavoc (e : Err) (s : State) : (hsFail e s).devHavoc = s.devHavoc := rfl
@[simp] theorem hsFail_port (e : Err) (s : State) : (hsFail e s).port = s.port := rfl

@[simp] theorem hsSuccess_cfg (s : State) : (hsSuccess s).cfg = s.cfg := rfl
@[simp] theorem hsSuccess_latch (s : State) : (hsSuccess s).latch = s.latch := rfl
@[simp] theorem hsSuccess_fl (s : State) : (hsSuccess s).fl = s.fl := rfl
@[simp] theorem hsSuccess_fi (s : State) : (hsSuccess s).fi = s.fi := rfl
@[simp] theorem hsSuccess_fwack (s : State) : (hsSuccess s).fwack = s.fwack := rfl
@[simp] theorem hsSuccess_ltack (s : State) : (hsSuccess s).ltack = s.ltack := rfl
@[simp] theorem hsSuccess_init (s : State) : (hsSuccess s).init = true := rfl
@[simp] theorem hsSuccess_hsfail (s : State) : (hsSuccess s).hsfail = s.hsfail := rfl
@[simp] theorem hsSuccess_busy (s : State) : (hsSuccess s).busy = s.busy := rfl
@[simp] theorem hsSuccess_err (s : State) : (hsSuccess s).err = .none := rfl
@[simp] theorem hsSuccess_fwver (s : State) : (hsSuccess s).fwver = s.fwver := rfl
@[simp] theorem hsSuccess_status (s : State) : (hsSuccess s).status = s.status := rfl
@[simp] theorem hsSuccess_hscnt (s : State) : (hsSuccess s).hscnt = s.hscnt := rfl
@[simp] theorem hsSuccess_hsSent (s : State) : (hsSuccess s).hsSent = s.hsSent := rfl
@[simp] theorem hsSuccess_txf (s : State) : (hsSuccess s).txf = s.txf := rfl
@[simp] theorem hsSuccess_rxf (s : State) : (hsSuccess s).rxf = s.rxf := rfl
@[simp] theorem hsSuccess_txlog (s : State) : (hsSuccess s).txlog = s.txlog := rfl
@[simp] theorem hsSuccess_rxBuf (s : State) : (hsSuccess s).rxBuf = [] := rfl
@[simp] theorem hsSuccess_rxArr (s : State) : (hsSuccess s).rxArr = s.rxArr := rfl
@[simp] theorem hsSuccess_rxN (s : State) : (hsSuccess s).rxN = s.rxN := rfl
@[simp] theorem hsSuccess_txAns (s : State) : (hsSuccess s).txAns = s.txAns := rfl
@[simp] theorem hsSuccess_txN (s : State) : (hsSuccess s).txN = s.txN := rfl
@[simp] theorem hsSuccess_txStart (s : State) : (hsSuccess s).txStart = s.txStart := rfl
@[simp] theorem hsSuccess_devRx (s : State) : (hsSuccess s).devRx = s.devRx := rfl
@[simp] theorem hsSuccess_devHavoc (s : State) : (hsSuccess s).devHavoc = s.devHavoc := rfl
@[simp] theorem hsSuccess_port (s : State) : (hsSuccess s).port = s.port := rfl

@[simp] theorem accepting_cfg (s : State) : (s.accepting).cfg = s.cfg := rfl
@[simp] theorem accepting_latch (s : State) : (s.accepting).latch = s.latch := rfl
@[simp] theorem accepting_fl (s : State) : (s.accepting).fl = s.fl := rfl
@[simp] theorem accepting_fi (s : State) : (s.accepting).fi = s.fi := rfl
@[simp] theorem accepting_fwack (s : State) : (s.accepting).fwack = true := rfl
@[simp] theorem accepting_ltack (s : State) : (s.accepting).ltack = true := rfl
@[simp] theorem accepting_init (s : State) : (s.accepting).init = true := rfl
@[simp] theorem accepting_hsfail (s : State) : (s.accepting).hsfail = false := rfl
@[simp] theorem accepting_busy (s : State) : (s.accepting).busy = false := rfl
@[simp] theorem accepting_err (s : State) : (s.accepting).err = s.err := rfl
@[simp] theorem accepting_fwver (s : State) : (s.accepting).fwver = s.fwver := rfl
@[simp] theorem accepting_status (s : State) : (s.accepting).status = s.status := rfl
@[simp] theorem accepting_hscnt (s : State) : (s.accepting).hscnt = s.hscnt := rfl
@[simp] theorem accepting_hsSent (s : State) : (s.accepting).hsSent = 4 := rfl
@[simp] theorem accepting_txf (s : State) : (s.accepting).txf = s.txf := rfl
@[simp] theorem accepting_rxf (s : State) : (s.accepting).rxf = s.rxf := rfl
@[simp] theorem accepting_txlog (s : State) : (s.accepting).txlog = s.txlog := rfl
@[simp] theorem accepting_rxBuf (s : State) : (s.accepting).rxBuf = s.rxBuf := rfl
@[simp] theorem accepting_rxArr (s : State) : (s.accepting).rxArr = s.rxArr := rfl
@[simp] theorem accepting_rxN (s : State) : (s.accepting).rxN = s.rxN := rfl
@[simp] theorem accepting_txAns (s : State) : (s.accepting).txAns = s.txAns := rfl
@[simp] theorem accepting_txN (s : State) : (s.accepting).txN = s.txN := rfl
@[simp] theorem accepting_txStart (s : State) : (s.accepting).txStart = s.txStart := rfl
@[simp] theorem accepting_devRx (s : State) : (s.accepting).devRx = s.devRx := rfl
@[simp] theorem accepting_devHavoc (s : State) : (s.accepting).devHavoc = s.devHavoc := rfl
@[simp] theorem accepting_port (s : State) : (s.accepting).port = s.port := rfl

@[simp] theorem awaitingReads_cfg (s : State) : (s.awaitingReads).cfg = s.cfg := rfl
@[simp] theorem awaitingReads_latch (s : State) : (s.awaitingReads).latch = s.latch := rfl
@[simp] theorem awaitingReads_fl (s : State) : (s.awaitingReads).fl = s.fl := rfl
@[simp] theorem awaitingReads_fi (s : State) : (s.awaitingReads).fi = s.fi := rfl
@[simp] theorem awaitingReads_fwack (s : State) : (s.awaitingReads).fwack = false := rfl
@[simp] theorem awaitingReads_ltack (s : State) : (s.awaitingReads).ltack = false := rfl
@[simp] theorem awaitingReads_init (s : State) : (s.awaitingReads).init = false := rfl
@[simp] theorem awaitingReads_hsfail (s : State) : (s.awaitingReads).hsfail = false := rfl
@[simp] theorem awaitingReads_busy (s : State) : (s.awaitingReads).busy = false := rfl
@[simp] theorem awaitingReads_err (s : State) : (s.awaitingReads).err = s.err := rfl
@[simp] theorem awaitingReads_fwver (s : State) : (s.awaitingReads).fwver = s.fwver := rfl
@[simp] theorem awaitingReads_status (s : State) : (s.awaitingReads).status = s.status := rfl
@[simp] theorem awaitingReads_hscnt (s : State) : (s.awaitingReads).hscnt = 0 := rfl
@[simp] theorem awaitingReads_hsSent (s : State) : (s.awaitingReads).hsSent = 4 := rfl
@[simp] theorem awaitingReads_txf (s : State) : (s.awaitingReads).txf = s.txf := rfl
@[simp] theorem awaitingReads_rxf (s : State) : (s.awaitingReads).rxf = s.rxf := rfl
@[simp] theorem awaitingReads_txlog (s : State) : (s.awaitingReads).txlog = s.txlog := rfl
@[simp] theorem awaitingReads_rxBuf (s : State) : (s.awaitingReads).rxBuf = s.rxBuf := rfl
@[simp] theorem awaitingReads_rxArr (s : State) : (s.awaitingReads).rxArr = s.rxArr := rfl
@[simp] theorem awaitingReads_rxN (s : State) : (s.awaitingReads).rxN = s.rxN := rfl
@[simp] theorem awaitingReads_txAns (s : State) : (s.awaitingReads).txAns = s.txAns := rfl
@[simp] theorem awaitingReads_txN (s : State) : (s.awaitingReads).txN = s.txN := rfl
@[simp] theorem awaitingReads_txStart (s : State) : (s.awaitingReads).txStart = s.txStart := rfl
@[simp] theorem awaitingReads_devRx (s : State) : (s.awaitingReads).devRx = s.devRx := rfl
@[simp] theorem awaitingReads_devHavoc (s : State) : (s.awaitingReads).devHavoc = s.devHavoc := rfl
@[simp] theorem awaitingReads_port (s : State) : (s.awaitingReads).port = s.port := rfl

@[simp] theorem readDone_cfg (s : State) : (readDone s).cfg = s.cfg := by unfold readDone; split <;> rfl
@[simp] theorem readDone_latch (s : State) : (readDone s).latch = s.latch := by unfold readDone; split <;> rfl
@[simp] theorem readDone_fl (s : State) : (readDone s).fl = s.fl := by unfold readDone; split <;> rfl
@[simp] theorem readDone_fi (s : State) : (readDone s).fi = s.fi := by unfold readDone; split <;> rfl
@[simp] theorem readDone_fwack (s : State) : (readDone s).fwack = s.fwack := by unfold readDone; split <;> rfl
@[simp] theorem readDone_ltack (s : State) : (readDone s).ltack = s.ltack := by unfold readDone; split <;> rfl
@[simp] theorem readDone_init (s : State) : (readDone s).init = s.init := by unfold readDone; split <;> rfl
@[simp] theorem readDone_hsfail (s : State) : (readDone s).hsfail = s.hsfail := by unfold readDone; split <;> rfl
@[simp] theorem readDone_busy (s : State) : (readDone s).busy = s.busy := by unfold readDone; split <;> rfl
@[simp] theorem readDone_err (s : State) : (readDone s).err = s.err := by unfold readDone; split <;> rfl
@[simp] theorem readDone_fwver (s : State) : (readDone s).fwver = s.fwver := by unfold readDone; split <;> rfl
@[simp] theorem readDone_status (s : State) : (readDone s).status = s.status := by unfold readDone; split <;> rfl
@[simp] theorem readDone_hscnt (s : State) : (readDone s).hscnt = s.hscnt := by unfold readDone; split <;> rfl
@[simp] theorem readDone_hsSent (s : State) : (readDone s).hsSent = s.hsSent := by unfold readDone; split <;> rfl
@[simp] theorem readDone_txf (s : State) : (readDone s).txf = s.txf := by unfold readDone; split <;> rfl
@[simp] theorem readDone_rxf (s : State) : (readDone s).rxf = s.rxf := by unfold readDone; split <;> rfl
@[simp] theorem readDone_txlog (s : State) : (readDone s).txlog = s.txlog := by unfold readDone; split <;> rfl
@[simp] theorem readDone_txAns (s : State) : (readDone s).txAns = s.txAns := by unfold readDone; split <;> rfl
@[simp] theorem readDone_txN (s : State) : (readDone s).txN = s.txN := by unfold readDone; split <;> rfl
@[simp] theorem readDone_txStart (s : State) : (readDone s).txStart = s.txStart := by unfold readDone; split <;> rfl
@[simp] theorem readDone_devRx (s : State) : (readDone s).devRx = s.devRx := by unfold readDone; split <;> rfl
@[simp] theorem readDone_devHavoc (s : State) : (readDone s).devHavoc = s.devHavoc := by unfold readDone; split <;> rfl
@[simp] theorem readDone_port (s : State) : (readDone s).port = s.port := by unfold readDone; split <;> rfl
@[simp] theorem readDone_rxN (s : State) : (readDone s).rxN = s.rxN + 1 := by unfold readDone; split <;> rfl
@[simp] theorem readDone_rxBuf (s : State) : (readDone s).rxBuf = s.rxBuf.tail := by
  unfold readDone; split <;> simp_all
theorem readDone_rxArr (s : State) : (readDone s).rxArr = if s.rxBuf = [] then s.rxArr.tail else s.rxArr := by
  unfold readDone; split <;> simp_all

@[simp] theorem advance_cfg (s : State) : (advance s).cfg = s.cfg := by unfold advance; split <;> rfl
@[simp] theorem advance_latch (s : State) : (advance s).latch = s.latch := by unfold advance; split <;> rfl
@[simp] theorem advance_fl (s : State) : (advance s).fl = s.fl := by unfold advance; split <;> rfl
@[simp] theorem advance_fwack (s : State) : (advance s).fwack = s.fwack := by unfold advance; split <;> rfl
@[simp] theorem advance_ltack (s : State) : (advance s).ltack = s.ltack := by unfold advance; split <;> rfl
@[simp] theorem advance_init (s : State) : (advance s).init = s.init := by unfold advance; split <;> rfl
@[simp] theorem advance_hsfail (s : State) : (advance s).hsfail = s.hsfail := by unfold advance; split <;> rfl
@[simp] theorem advance_err (s : State) : (advance s).err = s.err := by unfold advance; split <;> rfl
@[simp] theorem advance_fwver (s : State) : (advance s).fwver = s.fwver := by unfold advance; split <;> rfl
@[simp] theorem advance_status (s : State) : (advance s).status = s.status := by unfold advance; split <;> rfl
@[simp] theorem advance_hscnt (s : State) : (advance s).hscnt = s.hscnt := by unfold advance; split <;> rfl
@[simp] theorem advance_hsSent (s : State) : (advance s).hsSent = s.hsSent := by unfold advance; split <;> rfl
@[simp] theorem advance_txf (s : State) : (advance s).txf = s.txf := by unfold advance; split <;> rfl
@[simp] theorem advance_rxf (s : State) : (advance s).rxf = s.rxf := by unfold advance; split <;> rfl
@[simp] theorem advance_txlog (s : State) : (advance s).txlog = s.txlog := by unfold advance; split <;> rfl
@[simp] theorem advance_rxBuf (s : State) : (advance s).rxBuf = s.rxBuf := by unfold advance; split <;> rfl
@[simp] theorem advance_rxArr (s : State) : (advance s).rxArr = s.rxArr := by unfold advance; split <;> rfl
@[simp] theorem advance_rxN (s : State) : (advance s).rxN = s.rxN := by unfold advance; split <;> rfl
@[simp] theorem advance_txAns (s : State) : (advance s).txAns = s.txAns := by unfold advance; split <;> rfl
@[simp] theorem advance_txN (s : State) : (advance s).txN = s.txN := by unfold advance; split <;> rfl
@[simp] theorem advance_txStart (s : State) : (advance s).txStart = s.txStart := by unfold advance; split <;> rfl
@[simp] theorem advance_devRx (s : State) : (advance s).devRx = s.devRx := by unfold advance; split <;> rfl
@[simp] theorem advance_port (s : State) : (advance s).port = s.port := by unfold advance; split <;> rfl
@[simp] theorem advance_fi (s : State) : (advance s).fi = s.fi + 1 := by unfold advance; split <;> rfl
theorem advance_busy (s : State) : (advance s).busy = (s.busy && !decide (s.fi + 1 = s.fl.length)) := by
  unfold advance; split <;> simp_all
theorem advance_devHavoc (s : State) :
    (advance s).devHavoc = (s.devHavoc && !decide (s.fi + 1 = s.fl.length)) := by
  unfold advance; split <;> simp_all

end Sys2Proof.Machine
end

