-- ==== Sys2Proof/Laws/Bytes.lean ====
section
/-! SUPPORT. Frames, padding, channel ids and effect codes. -/

namespace Sys2Proof

@[simp] theorem zeros_length (k : Nat) : (zeros k).length = k := by simp [zeros]

@[simp] theorem zeros_getD (k i : Nat) : (zeros k).getD i 0 = 0 := by
  simp [zeros, List.getD_eq_getElem?_getD, List.getElem?_replicate]
  split <;> rfl

/-- `pad64` on the lists R10 defines it for. -/
theorem pad64_bytes {L : List Byte} (h : L.length ≤ 64) : (pad64 L).bytes = L ++ zeros (64 - L.length) := by
  simp only [pad64, first64]
  exact List.take_of_length_le (by simp; omega)

/-- A padded frame's bytes: the list's, then zeros. -/
theorem pad64_get {L : List Byte} (h : L.length ≤ 64) (i : Nat) : (pad64 L).get i = L.getD i 0 := by
  unfold Frame.get
  rw [pad64_bytes h]
  by_cases hi : i < L.length
  · rw [List.getD_append _ _ _ _ hi]
  · rw [List.getD_append_right _ _ _ _ (by omega), zeros_getD, List.getD_eq_default _ _ (by omega)]

theorem Frame.get_eq_getElem (F : Frame) (i : Nat) (h : i < 64) : F.get i = F.bytes[i]'(by rw [F.len]; exact h) := by
  simp [Frame.get, List.getD_eq_getElem?_getD, F.len, h]

/-- Two frames with the same 64 bytes are one frame. -/
theorem Frame.ext_get {F G : Frame} (h : ∀ i < 64, F.get i = G.get i) : F = G := by
  obtain ⟨f, hf⟩ := F
  obtain ⟨g, hg⟩ := G
  have : f = g := by
    apply List.ext_getElem (by omega)
    intro i h1 h2
    have := h i (by omega)
    rwa [Frame.get_eq_getElem _ _ (by omega), Frame.get_eq_getElem _ _ (by omega)] at this
  subst this
  rfl

@[simp] theorem grb_length (c : Colour) : (grb c).length = 3 := rfl

@[simp] theorem flatMap_grb_length (cs : List Colour) : (cs.flatMap grb).length = 3 * cs.length := by
  induction cs with
  | nil => rfl
  | cons c cs ih => simp [ih]; omega

@[simp] theorem Channel.ofSel_sel (ch : Channel) : Channel.ofSel ch.sel = ch := by cases ch <;> rfl

@[simp] theorem Channel.ofCid_cidByte (ch : Channel) : Channel.ofCid (cidByte ch) = some ch := by
  cases ch <;> decide

theorem Channel.cidByte_of_ofCid {b : Byte} {ch : Channel} (h : Channel.ofCid b = some ch) : cidByte ch = b := by
  simpa using List.find?_some h

theorem Effect.code_toNat (e : Effect) : e.code.toNat = e.info.code := by cases e <;> rfl

@[simp] theorem Effect.ofCode_code (e : Effect) : Effect.ofCode e.code = some e := by cases e <;> rfl

theorem Effect.code_of_ofCode {c : BitVec 6} {e : Effect} (h : Effect.ofCode c = some e) : e.code = c := by
  revert h e c; decide +kernel

theorem Effect.mem_all (e : Effect) : e ∈ Effect.all := by cases e <;> decide +kernel

theorem Effect.code_lt (e : Effect) : e.info.code < 40 := by cases e <;> decide

end Sys2Proof
end

