-- ==== Sys2Proof/Laws/Memory.lean ====
section
/-! SUPPORT. The frame buffers: reads after writes, and the canonical form. -/

namespace Sys2Proof.Machine

theorem Memory.wfFrom_mono {m : Memory} {lo lo' : Nat} (h : lo' ≤ lo) (hm : Memory.wfFrom lo m = true) :
    Memory.wfFrom lo' m = true := by
  cases m with
  | nil => rfl
  | cons p rest =>
    obtain ⟨a, v⟩ := p
    simp only [Memory.wfFrom, Bool.and_eq_true, decide_eq_true_eq] at hm ⊢
    exact ⟨⟨⟨by omega, hm.1.1.2⟩, hm.1.2⟩, hm.2⟩

/-- An offset below every listed one reads 0x00. -/
theorem memRead_lt {m : Memory} {lo a : Nat} (hm : Memory.wfFrom lo m = true) (h : a < lo) : memRead m a = 0 := by
  induction m generalizing lo with
  | nil => rfl
  | cons p rest ih =>
    obtain ⟨b, x⟩ := p
    simp only [Memory.wfFrom, Bool.and_eq_true, decide_eq_true_eq] at hm
    have hne : a ≠ b := by omega
    simp only [memRead, if_neg hne]
    exact ih hm.2 (by omega)

theorem memWrite_wfFrom {m : Memory} {lo a : Nat} (v : Byte) (hm : Memory.wfFrom lo m = true) (h1 : lo ≤ a)
    (h2 : a < 64) : Memory.wfFrom lo (memWrite m a v) = true := by
  induction m generalizing lo with
  | nil =>
    by_cases hv : v = 0
    · simp [memWrite, hv, Memory.wfFrom]
    · simp only [memWrite, if_neg hv, Memory.wfFrom, Bool.and_eq_true, decide_eq_true_eq]
      exact ⟨⟨⟨h1, h2⟩, hv⟩, trivial⟩
  | cons p rest ih =>
    obtain ⟨b, x⟩ := p
    have hm' := hm
    simp only [Memory.wfFrom, Bool.and_eq_true, decide_eq_true_eq] at hm'
    obtain ⟨⟨⟨hb1, hb2⟩, hx⟩, hr⟩ := hm'
    by_cases hab : a < b
    · by_cases hv : v = 0
      · simpa [memWrite, hab, hv] using hm
      · simp only [memWrite, if_pos hab, if_neg hv, Memory.wfFrom, Bool.and_eq_true, decide_eq_true_eq]
        exact ⟨⟨⟨h1, h2⟩, hv⟩, ⟨⟨by omega, hb2⟩, hx⟩, hr⟩
    · by_cases he : a = b
      · subst he
        by_cases hv : v = 0
        · simp only [memWrite, if_neg hab, hv, ↓reduceIte]
          exact Memory.wfFrom_mono (by omega) hr
        · simp only [memWrite, if_neg hab, if_neg hv, ↓reduceIte, Memory.wfFrom, Bool.and_eq_true, decide_eq_true_eq]
          exact ⟨⟨⟨h1, h2⟩, hv⟩, hr⟩
      · simp only [memWrite, if_neg hab, if_neg he, Memory.wfFrom, Bool.and_eq_true, decide_eq_true_eq]
        exact ⟨⟨⟨hb1, hb2⟩, hx⟩, ih hr (by omega)⟩

/-- A byte write keeps the canonical form. -/
theorem memWrite_wf {m : Memory} {a : Nat} (v : Byte) (hm : Memory.wf m = true) (h : a < 64) :
    Memory.wf (memWrite m a v) = true := memWrite_wfFrom v hm (Nat.zero_le _) h

/-- A read after a byte write. -/
theorem memRead_memWrite {m : Memory} {lo a : Nat} (v : Byte) (b : Nat) (hm : Memory.wfFrom lo m = true) :
    memRead (memWrite m a v) b = if b = a then v else memRead m b := by
  induction m generalizing lo with
  | nil =>
    by_cases hv : v = 0
    · simp [memWrite, memRead, hv]
    · simp only [memWrite, if_neg hv, memRead]
  | cons p rest ih =>
    obtain ⟨c, x⟩ := p
    have hm' := hm
    simp only [Memory.wfFrom, Bool.and_eq_true, decide_eq_true_eq] at hm'
    obtain ⟨⟨⟨hc1, hc2⟩, hx⟩, hr⟩ := hm'
    by_cases hac : a < c
    · by_cases hv : v = 0
      · simp only [memWrite, if_pos hac, hv, ↓reduceIte]
        by_cases hb : b = a
        · subst hb
          rw [if_pos rfl, memRead, if_neg (by omega : b ≠ c)]
          exact memRead_lt hr (by omega)
        · rw [if_neg hb]
      · simp only [memWrite, if_pos hac, if_neg hv]
        rw [memRead]
    · by_cases he : a = c
      · subst he
        by_cases hv : v = 0
        · simp only [memWrite, if_neg hac, hv, ↓reduceIte]
          by_cases hb : b = a
          · subst hb
            rw [if_pos rfl]
            exact memRead_lt hr (by omega)
          · rw [if_neg hb, memRead, if_neg hb]
        · simp only [memWrite, if_neg hac, if_neg hv, ↓reduceIte]
          by_cases hb : b = a
          · simp [memRead, hb]
          · simp [memRead, hb]
      · simp only [memWrite, if_neg hac, if_neg he, memRead]
        by_cases hb : b = c
        · subst hb
          rw [if_pos rfl, if_pos rfl, if_neg (by omega)]
        · rw [if_neg hb, if_neg hb, ih hr]

theorem memStore_spec {vs : List Byte} {m : Memory} {a : Nat} (hm : Memory.wf m = true) (h : a + vs.length ≤ 64) :
    Memory.wf (memStore m a vs) = true ∧
      ∀ b, memRead (memStore m a vs) b = if a ≤ b ∧ b < a + vs.length then vs.getD (b - a) 0 else memRead m b := by
  induction vs generalizing m a with
  | nil => exact ⟨hm, fun b => by simp [memStore]⟩
  | cons v vs ih =>
    simp only [List.length_cons] at h
    obtain ⟨h1, h2⟩ := ih (m := memWrite m a v) (a := a + 1) (memWrite_wf v hm (by omega)) (by omega)
    refine ⟨h1, fun b => ?_⟩
    simp only [memStore, h2, List.length_cons]
    by_cases hb : b = a
    · subst hb
      rw [if_neg (by omega), if_pos (by omega), memRead_memWrite v b hm]
      simp
    · by_cases hr : a + 1 ≤ b ∧ b < a + 1 + vs.length
      · rw [if_pos hr, if_pos (by omega)]
        have : b - a = (b - (a + 1)) + 1 := by omega
        rw [this, List.getD_cons_succ]
      · rw [if_neg hr, if_neg (by omega), memRead_memWrite v b hm, if_neg hb]

/-- A frame buffer loaded with a frame keeps the canonical form. -/
@[simp] theorem memLoad_wf {m : Memory} (F : Frame) (hm : Memory.wf m = true) : Memory.wf (memLoad m F) = true :=
  (memStore_spec hm (by simp [F.len])).1

/-- What a frame buffer reads after a load: the frame. -/
theorem memRead_memLoad {m : Memory} (F : Frame) (hm : Memory.wf m = true) {a : Nat} (h : a < 64) :
    memRead (memLoad m F) a = F.get a := by
  have := (memStore_spec (a := 0) hm (by simp [F.len] : 0 + F.bytes.length ≤ 64)).2 a
  simpa [memLoad, F.len, h, Frame.get] using this

/-- Canonical buffers that read the same everywhere are equal. -/
theorem Memory.ext_read {lo : Nat} {m m' : Memory} (h : Memory.wfFrom lo m = true) (h' : Memory.wfFrom lo m' = true)
    (hr : ∀ a, memRead m a = memRead m' a) : m = m' := by
  induction m generalizing lo m' with
  | nil =>
    cases m' with
    | nil => rfl
    | cons x rest =>
      obtain ⟨b, v⟩ := x
      simp only [Memory.wfFrom, Bool.and_eq_true, decide_eq_true_eq] at h'
      have := hr b
      simp [memRead] at this
      exact absurd this.symm h'.1.2
  | cons x rest ih =>
    obtain ⟨b, v⟩ := x
    cases m' with
    | nil =>
      simp only [Memory.wfFrom, Bool.and_eq_true, decide_eq_true_eq] at h
      have := hr b
      simp [memRead] at this
      exact absurd this h.1.2
    | cons y rest' =>
      obtain ⟨b', v'⟩ := y
      simp only [Memory.wfFrom, Bool.and_eq_true, decide_eq_true_eq] at h h'
      have e : b = b' := by
        by_contra hne
        rcases Nat.lt_or_gt_of_ne hne with hlt | hlt
        · have := hr b
          simp only [memRead, if_true, if_neg hne] at this
          rw [memRead_lt h'.2 (by omega)] at this
          exact h.1.2 this
        · have := hr b'
          simp only [memRead, if_true, if_neg (Ne.symm hne)] at this
          rw [memRead_lt h.2 (by omega)] at this
          exact h'.1.2 this.symm
      subst e
      have ev : v = v' := by have := hr b; simpa [memRead] using this
      subst ev
      congr 1
      refine ih h.2 h'.2 ?_
      intro a
      have := hr a
      by_cases hab : a = b
      · subst hab; rw [memRead_lt h.2 (by omega), memRead_lt h'.2 (by omega)]
      · simpa [memRead, hab] using this

/-- A canonical buffer reads 0x00 beyond its 64 offsets. -/
theorem memRead_ge {m : Memory} {lo a : Nat} (h : Memory.wfFrom lo m = true) (ha : 64 ≤ a) : memRead m a = 0 := by
  induction m generalizing lo with
  | nil => rfl
  | cons x rest ih =>
    obtain ⟨b, v⟩ := x
    simp only [Memory.wfFrom, Bool.and_eq_true, decide_eq_true_eq] at h
    rw [memRead, if_neg (by omega)]
    exact ih h.2

end Sys2Proof.Machine
end

