-- ==== Sys2Proof/Laws/Build.lean ====
section
/-! SUPPORT. The configuration tables and `build`: what a well-formed configuration gives, and what `build` answers, said once. -/

namespace Sys2Proof

/-- A well-formed configuration passes every check. -/
theorem Cfg.passes (c : Cfg) (k : CfgCheck) : c.raw.passes k = true := by
  have h := c.ok
  unfold RawCfg.wf at h
  rw [List.all_eq_true] at h
  exact h k (by cases k <;> decide)

/-- K1: every effect has its row. -/
theorem Cfg.row_exists (c : Cfg) (e : Effect) : ∃ m, c.raw.row e = some m := by
  have h := c.passes .k1
  simp only [RawCfg.passes, decide_eq_true_eq] at h
  have he := e.code_lt
  exact ⟨c.raw.catalog[e.info.code]'(by omega), by simp [RawCfg.row, h, he]⟩

theorem RawCfg.rowTest_row {c : RawCfg} {e : Effect} {p : CatalogRow → Bool} {m : CatalogRow}
    (h : c.rowTest e p = true) (hm : c.row e = some m) : p m = true := by
  simpa [RawCfg.rowTest, hm] using h

/-- K2: a row's speed class is in 0..11. -/
theorem Cfg.speedClass_lt (c : Cfg) {e : Effect} {m : CatalogRow} (hm : c.raw.row e = some m) : m.speedClass < 12 := by
  have h := c.passes .k2
  simp only [RawCfg.passes, List.all_eq_true, decide_eq_true_eq] at h
  exact h m (List.mem_of_getElem? hm)

/-- K6 at an effect. -/
theorem Cfg.k6 (c : Cfg) {e : Effect} {m : CatalogRow} (hm : c.raw.row e = some m) : rowK6 e m = true := by
  have h := c.passes .k6
  simp only [RawCfg.passes, List.all_eq_true] at h
  exact RawCfg.rowTest_row (h e e.mem_all) hm

/-- K8 at an effect. -/
theorem Cfg.k8 (c : Cfg) {e : Effect} {m : CatalogRow} (hm : c.raw.row e = some m) : rowK8 e m = true := by
  have h := c.passes .k8
  simp only [RawCfg.passes, List.all_eq_true] at h
  exact RawCfg.rowTest_row (h e e.mem_all) hm

/-- R170, D8: the Wings row admits a colour. -/
theorem Cfg.wings_maxColors (c : Cfg) {e : Effect} {m : CatalogRow} (hp : e.info.path = .wings) (hm : c.raw.row e = some m) :
    m.maxColors ≠ 0 := by
  have he : e = .wings := by revert hp; cases e <;> decide
  subst he
  have h := c.passes .wingsColour
  simp only [RawCfg.passes] at h
  simpa using RawCfg.rowTest_row h hm

/-- The timing table is total on its domain (R6). -/
theorem Cfg.timing_exists (c : Cfg) {k s : Nat} (hk : k < 12) (hs : s ≤ 4) : ∃ t, c.raw.timingOf k s = some t := by
  have h := c.passes .timingTotal
  simp only [RawCfg.passes, Bool.and_eq_true, decide_eq_true_eq, List.all_eq_true] at h
  have hl := h.2 (c.raw.timing[k]'(by omega)) (List.getElem_mem _)
  refine ⟨(c.raw.timing[k]'(by omega))[s]'(by omega), ?_⟩
  simp [RawCfg.timingOf, h.1, hk]

end Sys2Proof

namespace Sys2Proof.Machine

/-- `check_count` passes exactly on R210's invariant. -/
theorem checkCount_ok {m : CatalogRow} {n : Nat} : checkCount m n = .ok () ↔ CountOk m n := by
  have hz : m.maxColors = 0 ↔ m.maxColors.toNat = 0 := by
    constructor
    · intro h; simp [h]
    · intro h; exact BitVec.eq_of_toNat_eq (by simpa using h)
  simp only [checkCount, CountOk, ne_eq, hz]
  by_cases h0 : m.maxColors.toNat = 0
  · rw [if_pos h0]
    by_cases hn : 0 < n
    · simp only [if_pos hn, reduceCtorEq, false_iff]; omega
    · simp only [if_neg hn, true_iff]; omega
  · rw [if_neg h0]
    by_cases h1 : n < m.minColors.toNat
    · simp only [if_pos h1, reduceCtorEq, false_iff]; omega
    · rw [if_neg h1]
      by_cases h2 : m.maxColors.toNat < n
      · simp only [if_pos h2, reduceCtorEq, false_iff]; omega
      · simp only [if_neg h2, true_iff]; omega

/-- What an accepted command is: an effect with its row, at most forty colours, operands that pass validation, and the frames of
its path. -/
theorem build_ok {c : RawCfg} {ch : Channel} {eff : BitVec 6} {n : Nat} {col : ColourRegs} {s : BitVec 3}
    {fl : List Frame} (h : build c ch eff n col s = .ok fl) :
    ∃ e m t, Effect.ofCode eff = some e ∧ c.row e = some m ∧ n ≤ 40 ∧ validate c e m n s = .ok t ∧
      fl = pathFrames c ch e m n col t := by
  unfold build at h
  split at h
  · cases h
  · rename_i e he
    split at h
    · cases h
    · rename_i m hm
      split at h
      · cases h
      · rename_i h40
        split at h
        · cases h
        · rename_i t ht
          cases h
          exact ⟨e, m, t, he, hm, by omega, ht, rfl⟩

/-- What validation accepts (R74): a colour count in the bounds, a speed level with a timing entry, and frames that fit. -/
theorem validate_ok {c : RawCfg} {e : Effect} {m : CatalogRow} {n : Nat} {s : BitVec 3} {t : Byte × Byte} :
    validate c e m n s = .ok t ↔
      CountOk m n ∧ s.toNat ≤ 4 ∧ c.timingOf m.speedClass s.toNat = some t ∧ checkFit c e.info.path n = .ok () := by
  unfold validate timingEntry
  rw [← checkCount_ok]
  by_cases h1 : checkCount m n = .ok ()
  · rw [h1]
    by_cases h2 : 4 < s.toNat
    · simp [h2]
    · simp only [if_neg h2]
      cases h3 : c.timingOf m.speedClass s.toNat with
      | none => simp
      | some t' =>
        cases h4 : checkFit c e.info.path n with
        | error x => simp
        | ok u => simp; omega
  · cases h5 : checkCount m n with
    | ok u => exact absurd h5 h1
    | error x => simp

/-- How many frames a path gives (R109 (vi), R165 (i), R177 (i)). -/
def pathLength : Path → Nat
  | .default => 1
  | .dense   => 3
  | .wings   => 11

theorem pathFrames_length (c : RawCfg) (ch : Channel) (e : Effect) (m : CatalogRow) (n : Nat) (col : ColourRegs)
    (t : Byte × Byte) : (pathFrames c ch e m n col t).length = pathLength e.info.path := by
  unfold pathFrames
  cases e.info.path <;> simp [pathLength, denseFrames, wingsFrames]

theorem isBurst_length {c : RawCfg} {fl : List Frame} (h : IsBurst c fl) :
    fl.length = 1 ∨ fl.length = 3 ∨ fl.length = 11 := by
  obtain ⟨ch, eff, n, col, spd, hb⟩ := h
  obtain ⟨e, m, t, -, -, -, -, rfl⟩ := build_ok hb
  rw [pathFrames_length]
  cases e.info.path <;> simp [pathLength]

/-- A row of the default path admits at most sixteen colours (R102, R213, by K8). -/
theorem default_count (c : Cfg) {e : Effect} {m : CatalogRow} {n : Nat} (hp : e.info.path = .default)
    (hm : c.raw.row e = some m) (hn : CountOk m n) : n ≤ 16 := by
  have h := c.k8 hm
  simp only [rowK8, hp, decide_eq_true_eq] at h
  by_cases h0 : m.maxColors = 0
  · have := hn.1 h0
    omega
  · have := (hn.2 h0).2
    omega

/-- Off the Wings path a row admits at most forty colours (K8). -/
theorem count_le_forty (c : Cfg) {e : Effect} {m : CatalogRow} {n : Nat} (hp : e.info.path ≠ .wings)
    (hm : c.raw.row e = some m) (hn : CountOk m n) : n ≤ 40 := by
  have h := c.k8 hm
  by_cases h0 : m.maxColors = 0
  · have := hn.1 h0
    omega
  · have h1 := (hn.2 h0).2
    cases hq : e.info.path with
    | default =>
      simp only [rowK8, hq, decide_eq_true_eq] at h
      omega
    | dense =>
      simp only [rowK8, hq, decide_eq_true_eq] at h
      omega
    | wings => exact absurd hq hp

/-- Wings admits no empty colour list (R170, R178; decision D8). -/
theorem wings_count (c : Cfg) {e : Effect} {m : CatalogRow} {n : Nat} (hp : e.info.path = .wings)
    (hm : c.raw.row e = some m) (hn : CountOk m n) : 1 ≤ n := by
  have h := c.k8 hm
  simp only [rowK8, hp, decide_eq_true_eq] at h
  have := (hn.2 (c.wings_maxColors hp hm)).1
  omega

/-- The colours a command supplied are the first `n` registers of the latch, whatever the others held. -/
theorem ColourRegs.load_take (old new : ColourRegs) (n : Nat) :
    (ColourRegs.load old new n).list.take n = new.list.take n := by
  have h1 := new.len
  have h2 := old.len
  by_cases h : n ≤ 40
  · simp [ColourRegs.load, List.length_take, h1, h]
  · simp only [ColourRegs.load, List.take_of_length_le (show new.list.length ≤ n by omega),
      List.drop_eq_nil_of_le (show old.list.length ≤ n by omega), List.append_nil]

/-- Lists that agree on a leading part that is not empty have the same head. -/
theorem head_eq_of_take_eq {l l' : List Colour} {n : Nat} (h : l.take n = l'.take n) (hn : 1 ≤ n) (hl : l ≠ [])
    (hl' : l' ≠ []) : l.head hl = l'.head hl' := by
  obtain ⟨x, xs, rfl⟩ := List.exists_cons_of_ne_nil hl
  obtain ⟨y, ys, rfl⟩ := List.exists_cons_of_ne_nil hl'
  obtain ⟨k, rfl⟩ : ∃ k, n = k + 1 := ⟨n - 1, by omega⟩
  simp at h
  simp [h.1]

/-- `build` reads only the colours supplied. -/
theorem build_congr (c : Cfg) (ch : Channel) (eff : BitVec 6) {n : Nat} {col col' : ColourRegs} (s : BitVec 3)
    (h : col.list.take n = col'.list.take n) : build c.raw ch eff n col s = build c.raw ch eff n col' s := by
  unfold build
  split
  · rfl
  · rename_i e he
    split
    · rfl
    · rename_i m hm
      split
      · rfl
      · split
        · rfl
        · rename_i t ht
          congr 1
          unfold pathFrames
          split
          · rw [h]
          · rw [h]
          · rename_i hp
            rw [head_eq_of_take_eq h (wings_count c hp hm (validate_ok.mp ht).1)]

end Sys2Proof.Machine
end

