-- ==== Sys2Proof/Laws/Frames.lean ====
section
/-! SUPPORT. The bytes of frames laid out from parts: colour slots and slices of a padded list, and the lengths of the parts of the three
paths' frames. -/

namespace Sys2Proof

@[simp] theorem Frame.slice_length (F : Frame) (lo k : Nat) : (F.slice lo k).length = k := by simp [Frame.slice]

/-- Neighbouring slices of a frame make one slice. -/
theorem Frame.slice_append (F : Frame) (lo a b : Nat) : F.slice lo a ++ F.slice (lo + a) b = F.slice lo (a + b) := by
  apply List.ext_getElem
  · simp
  · intro i h1 h2
    simp only [Frame.slice, List.getElem_append, List.length_map, List.length_range, List.getElem_map,
      List.getElem_range]
    split
    · rfl
    · congr 1
      omega

/-- The slice of all 64 bytes is the frame. -/
theorem Frame.slice_all (F : Frame) : F.slice 0 64 = F.bytes := by
  apply List.ext_getElem
  · simp [F.len]
  · intro i h1 h2
    rw [F.len] at h2
    simp [Frame.slice, Frame.get_eq_getElem, h2]

/-- The bytes of a frame's colour slots are its slice there. -/
theorem slotBytes_slots (F : Frame) (lo k : Nat) : slotBytes (F.slots lo k) = F.slice lo (3 * k) := by
  induction k with
  | zero => rfl
  | succ k ih =>
    rw [show 3 * (k + 1) = 3 * k + 3 by omega, ← Frame.slice_append, ← ih]
    simp [Frame.slots, slotBytes, List.range_succ, List.flatMap_append, grb, Frame.slice]

/-- Byte `j` of colour `i` in a list of colours on the wire. -/
theorem flatMap_grb_getD {cs : List Colour} {i j : Nat} (h : i < cs.length) (hj : j < 3) :
    (cs.flatMap grb).getD (3 * i + j) 0 = (grb cs[i]).getD j 0 := by
  induction cs generalizing i with
  | nil => simp at h
  | cons c cs ih =>
    cases i with
    | zero =>
      simp only [List.flatMap_cons, Nat.mul_zero, Nat.zero_add, List.getElem_cons_zero]
      exact List.getD_append _ _ _ _ (by simpa using hj)
    | succ i =>
      have := ih (i := i) (by simpa using h)
      rw [List.flatMap_cons, List.getD_append_right _ _ _ _ (by simp; omega), List.getElem_cons_succ, ← this]
      congr 1
      simp
      omega

/-- The colour slots of a padded list of bytes with colours in it, from byte `lo` on. -/
theorem pad64_colour {pre post : List Byte} {cs : List Colour} {lo i : Nat} {x : Colour} (hl : pre.length = lo)
    (h64 : (pre ++ cs.flatMap grb ++ post).length ≤ 64) (hx : cs[i]? = some x) :
    (pad64 (pre ++ cs.flatMap grb ++ post)).get (lo + 3 * i) = x.g ∧
    (pad64 (pre ++ cs.flatMap grb ++ post)).get (lo + 3 * i + 1) = x.r ∧
    (pad64 (pre ++ cs.flatMap grb ++ post)).get (lo + 3 * i + 2) = x.b := by
  obtain ⟨hi, rfl⟩ := List.getElem?_eq_some_iff.mp hx
  have key : ∀ j < 3, (pad64 (pre ++ cs.flatMap grb ++ post)).get (lo + 3 * i + j) = (grb cs[i]).getD j 0 := by
    intro j hj
    rw [pad64_get h64, List.append_assoc, List.getD_append_right _ _ _ _ (by omega),
      List.getD_append _ _ _ _ (by rw [flatMap_grb_length]; omega),
      show lo + 3 * i + j - pre.length = 3 * i + j by omega, flatMap_grb_getD hi hj]
  exact ⟨key 0 (by omega), key 1 (by omega), key 2 (by omega)⟩

/-- A slice of a padded list that holds just its middle part. -/
theorem pad64_slice {pre mid post : List Byte} {lo k : Nat} (hl : pre.length = lo) (hk : mid.length = k)
    (h64 : (pre ++ mid ++ post).length ≤ 64) : (pad64 (pre ++ mid ++ post)).slice lo k = mid := by
  apply List.ext_getElem
  · simp [hk]
  · intro i h1 h2
    simp only [Frame.slice, List.getElem_map, List.getElem_range]
    rw [pad64_get h64, List.append_assoc, List.getD_append_right _ _ _ _ (by omega),
      List.getD_append _ _ _ _ (by omega), show lo + i - pre.length = i by omega]
    simp [List.getD_eq_getElem?_getD, h2]

/-- A padded list is zero from any byte past its end. -/
theorem pad64_zeroFrom {L : List Byte} {lo : Nat} (hl : L.length ≤ lo) (h64 : L.length ≤ 64) :
    (pad64 L).zeroFrom lo = true := by
  simp only [Frame.zeroFrom, decide_eq_true_eq]
  apply List.ext_getElem
  · simp
  · intro i h1 h2
    simp only [Frame.slice, List.getElem_map, List.getElem_range]
    rw [pad64_get h64, List.getD_eq_default _ _ (by omega)]
    simp [zeros]

/-- A frame that is zero from byte `n` on is its first `n` bytes, padded. -/
theorem pad64_slice_zeroFrom {F : Frame} {n : Nat} (hn : n ≤ 64) (hz : F.zeroFrom n = true) :
    pad64 (F.slice 0 n) = F := by
  have hb : (pad64 (F.slice 0 n)).bytes = F.bytes := by
    rw [pad64_bytes (by simpa using hn), Frame.slice_length, ← Frame.slice_all F]
    simp only [Frame.zeroFrom, decide_eq_true_eq] at hz
    have := Frame.slice_append F 0 n (64 - n)
    rw [show n + (64 - n) = 64 by omega, Nat.zero_add, hz] at this
    exact this
  obtain ⟨b, h⟩ := F
  cases hp : pad64 (Frame.slice ⟨b, h⟩ 0 n)
  simp_all

/-- The fields a command word is put together from (R70). -/
theorem head_fields (n : BitVec 6) (spd : BitVec 3) (code : BitVec 6) (sel : BitVec 2) :
    (n ++ spd ++ code ++ sel : BitVec 17).extractLsb' 0 2 = sel ∧
    (n ++ spd ++ code ++ sel : BitVec 17).extractLsb' 2 6 = code ∧
    (n ++ spd ++ code ++ sel : BitVec 17).extractLsb' 8 3 = spd ∧
    (n ++ spd ++ code ++ sel : BitVec 17).extractLsb' 11 6 = n := by
  refine ⟨?_, ?_, ?_, ?_⟩ <;> ext i hi <;> rw [BitVec.getElem_extractLsb'] <;> simp only [BitVec.getLsbD_append]
  · rw [if_pos (by omega), ← BitVec.getLsbD_eq_getElem]
    congr 1
    omega
  · rw [if_neg (by omega), if_pos (by omega), ← BitVec.getLsbD_eq_getElem]
    congr 1
    omega
  · rw [if_neg (by omega), if_neg (by omega), if_pos (by omega), ← BitVec.getLsbD_eq_getElem]
    congr 1
    omega
  · rw [if_neg (by omega), if_neg (by omega), if_neg (by omega), ← BitVec.getLsbD_eq_getElem]
    congr 1
    omega

/-- A colour field holds its colour (R70). -/
theorem Colour.ofField_colourField (c : Colour) : Colour.ofField (colourField c) = c := by
  obtain ⟨r, g, b⟩ := c
  simp only [Colour.ofField, colourField, Colour.mk.injEq]
  refine ⟨?_, ?_, ?_⟩ <;> ext i hi <;> rw [BitVec.getElem_extractLsb'] <;> simp only [BitVec.getLsbD_append]
  · rw [if_neg (by omega), if_neg (by omega), ← BitVec.getLsbD_eq_getElem]
    congr 1
    omega
  · rw [if_neg (by omega), if_pos (by omega), ← BitVec.getLsbD_eq_getElem]
    congr 1
    omega
  · rw [if_pos (by omega), ← BitVec.getLsbD_eq_getElem]
    congr 1
    omega

/-- The encoding of a SET is the command word of its effect's code. -/
theorem encode_ofEffect (e : Effect) (a : CmdArgs) : encode (Instr.ofEffect e a) = rawCmd e a := by cases e <;> rfl

/-- The effect code under the mask 0xFC of spec/opcode_table.json's CMD rows (R93). -/
theorem encodeCmd_mask (code : BitVec 6) (a : CmdArgs) : (encodeCmd code a).head.toNat &&& 0xFC = code.toNat * 4 := by
  have h := (head_fields a.n a.spd code a.ch.sel).2.1
  have hm : ∀ x : BitVec 17, x.toNat &&& 0xFC = (x.extractLsb' 2 6).toNat * 4 := by
    intro x
    have e : (0xFC : Nat) = 0x3F <<< 2 := by decide
    rw [BitVec.extractLsb'_toNat, Nat.shiftRight_eq_div_pow]
    apply Nat.eq_of_testBit_eq
    intro i
    rw [Nat.testBit_and, show x.toNat / 2 ^ 2 % 2 ^ 6 * 4 = 2 ^ 2 * (x.toNat / 2 ^ 2 % 2 ^ 6) by omega,
      Nat.testBit_two_pow_mul, Nat.testBit_mod_two_pow, Nat.testBit_div_two_pow, e, Nat.testBit_shiftLeft]
    by_cases h2 : 2 ≤ i
    · obtain ⟨k, rfl⟩ : ∃ k, i = k + 2 := ⟨i - 2, by omega⟩
      have : (0x3F : Nat).testBit k = decide (k < 6) := Nat.testBit_two_pow_sub_one 6 k
      simp [this, Bool.and_comm]
    · simp [h2]
  have e : (encodeCmd code a).head = a.n ++ a.spd ++ code ++ a.ch.sel := rfl
  rw [hm, e, h]

end Sys2Proof

namespace Sys2Proof.Machine

theorem footerOrder_length (c : Cfg) : c.raw.footerOrder.length = 5 := by
  have h := c.passes .footerPermutation
  simp only [RawCfg.passes, Bool.and_eq_true, decide_eq_true_eq] at h
  exact h.1

theorem wt_length (c : Cfg) (t0 t1 mod d0 d1 : Byte) : (wt c.raw t0 t1 mod d0 d1).length = 13 := by
  have h := c.passes .templateShape
  simp only [RawCfg.passes, Bool.and_eq_true, decide_eq_true_eq] at h
  simp [wt, h.1.1]

/-- A palette group fits between its place in a ZONE frame and the end of the padding (R172). -/
theorem paletteGroup_length_le (c1 : Colour) (j : Nat) : (paletteGroup c1 j).length ≤ 8 := by
  rcases j with _ | _ | _ | j <;> simp [paletteGroup]

/-- Past its sixth byte a palette group is zero, so that groups of six and of eight bytes give the same frame (R172). -/
theorem paletteGroup_take (c1 : Colour) (j k : Nat) :
    (paletteGroup c1 j).getD k 0 = ((paletteGroup c1 j).take 6).getD k 0 := by
  rcases j with _ | _ | _ | j
  · rfl
  · rfl
  · rfl
  · have h1 : paletteGroup c1 (j + 1 + 1 + 1) = zeros 8 := rfl
    have h2 : (zeros 8).take 6 = zeros 6 := rfl
    rw [h1, h2, zeros_getD, zeros_getD]

end Sys2Proof.Machine
end

