-- ==== Sys2Proof/Laws/Ops.lean ====
section
/-! SUPPORT. What each shared operation can do, said once: `issue`, `emit`, the transport's answers, the handshake's moves, the service
of the waiting requests, and one step. -/

namespace Sys2Proof.Machine

/-! ### `issue` -/

/-- A command that is not enabled changes nothing. -/
theorem issueCode_held {s : State} (h : s.ready = false) (eff : BitVec 6) (a : CmdArgs) : issueCode eff a s = s := by
  simp [issueCode, h]

/-- What `build` answers to the operands in the latch is what it answers to the operands of the command. -/
theorem buildLatch_latchWrite (s : State) (eff : BitVec 6) (a : CmdArgs) :
    buildLatch (latchWrite eff a s).cfg.raw (latchWrite eff a s).latch
      = build s.cfg.raw a.ch eff a.n.toNat a.col a.spd :=
  build_congr s.cfg a.ch eff a.spd (ColourRegs.load_take _ _ _)

/-- An enabled command writes the latch, and then loads its burst or raises its error. -/
theorem issueCode_ready {s : State} (h : s.ready = true) (eff : BitVec 6) (a : CmdArgs) :
    issueCode eff a s =
      match build s.cfg.raw a.ch eff a.n.toNat a.col a.spd with
      | .error x => raise (.encode x) (latchWrite eff a s)
      | .ok fl   => loadBurst fl (latchWrite eff a s) := by
  rw [← buildLatch_latchWrite]
  exact if_pos h

/-- Every SET is the issue of its effect. -/
theorem exec_ofEffect (e : Effect) (a : CmdArgs) (s : State) :
    exec (Instr.ofEffect e a) s = .next (issueCode e.code a s) := by
  cases e <;> rfl

/-! ### The transport's answers -/

theorem writeAnswer_eq (s : State) : s.writeAnswer = s.nthWrite 0 := by
  unfold State.writeAnswer State.nthWrite
  cases s.txAns <;> rfl

theorem readAnswer_eq (s : State) : s.readAnswer = s.nthRead 0 := by
  unfold State.readAnswer State.nthRead
  cases s.rxBuf with
  | cons F q => rfl
  | nil => cases s.rxArr <;> rfl

theorem readDone_eq (s : State) : readDone s = s.afterReads 1 := by
  unfold readDone State.afterReads
  cases h : s.rxBuf with
  | cons F q => cases s; simp_all
  | nil => cases s; simp_all

/-- Later writes are not moved by what a state update leaves of the script. -/
theorem nthWrite_congr {s t : State} (h1 : t.txAns = s.txAns) (h2 : t.txN = s.txN) (k : Nat) :
    t.nthWrite k = s.nthWrite k := by
  simp [State.nthWrite, h1, h2]

theorem nthRead_congr {s t : State} (h1 : t.rxBuf = s.rxBuf) (h2 : t.rxArr = s.rxArr) (h3 : t.rxN = s.rxN) (k : Nat) :
    t.nthRead k = s.nthRead k := by
  simp [State.nthRead, h1, h2, h3]

/-- After one write the answers move up by one. -/
theorem nthWrite_succ {s t : State} (h1 : t.txAns = s.txAns.tail) (h2 : t.txN = s.txN + 1) (k : Nat) :
    t.nthWrite k = s.nthWrite (k + 1) := by
  unfold State.nthWrite
  rw [h1, h2]
  cases s.txAns with
  | nil => simp [Nat.add_comm 1 k, Nat.add_assoc]
  | cons a as => simp [Nat.add_comm 1 k, Nat.add_assoc]

/-- After `j` reads the answers move up by `j`. -/
theorem nthRead_afterReads (s : State) (j k : Nat) : (s.afterReads j).nthRead k = s.nthRead (j + k) := by
  unfold State.nthRead State.afterReads
  simp only [List.getElem?_drop]
  by_cases h : j + k < s.rxBuf.length
  · simp [List.getElem?_eq_getElem h]
  · rw [List.getElem?_eq_none (by omega)]
    simp only [List.length_drop]
    rw [show j - s.rxBuf.length + (k - (s.rxBuf.length - j)) = j + k - s.rxBuf.length by omega, Nat.add_assoc]

/-! ### `emit` -/

theorem emitFrame_ok {s : State} {F : Frame} (h : s.writeAnswer = .ok) : emitFrame F s = advance (wrote F s) := by
  simp [emitFrame, h]

theorem emitFrame_error {s : State} {F : Frame} (h : s.writeAnswer = .transportError) :
    emitFrame F s = abandon (writeFailed F s) := by
  simp [emitFrame, h]

theorem emitFrame_never {s : State} {F : Frame} (h : s.writeAnswer = .never) : emitFrame F s = s := by
  simp [emitFrame, h]

/-- `advance` in one record: the lock is released exactly after the last frame. -/
theorem advance_eq {s : State} (h : s.busy = true) (hi : s.fi < s.fl.length) :
    advance s = { s with fi := s.fi + 1, busy := decide (s.fi + 1 < s.fl.length)
                         devHavoc := s.devHavoc && decide (s.fi + 1 < s.fl.length) } := by
  unfold advance
  split
  · rename_i h1
    simp [h1]
  · have h2 : s.fi + 1 < s.fl.length := by omega
    cases s
    simp_all

theorem currentFrame_eq_some {s : State} {F : Frame} :
    s.currentFrame = some F ↔ s.busy = true ∧ s.fl[s.fi]? = some F := by
  unfold State.currentFrame
  split <;> simp_all

/-- A frame kind of a burst is the `emit` of the frame it stands for. -/
theorem exec_of_encode_sent {i : Instr} {F : Frame} (h : encode i = .sent F) (s : State) :
    exec i s = .next (sendFrame F s) := by
  cases i <;> simp_all [encode, rawCmd] <;> subst h <;> rfl

/-- A handshake request is the write of the request it stands for. -/
theorem exec_of_encode_request {i : Instr} {k : BitVec 2} {F : Frame} (h : encode i = .request k F) (s : State) :
    exec i s = .next (sendRequest k.toNat F s) := by
  cases i <;> simp_all [encode, rawCmd] <;> obtain ⟨rfl, rfl⟩ := h <;> rfl

/-- A handshake acknowledgement is what receiving its frame does. -/
theorem exec_of_encode_handshake {i : Instr} {F : Frame} (h : encode i = .handshake F) (s : State) :
    exec i s = .next (hsReceive F s) := by
  cases i <;> simp_all [encode, rawCmd] <;> subst h <;> rfl

/-- What every instruction is, by where its bits lie. -/
theorem exec_cases (i : Instr) (s : State) :
    (∃ e a, i = Instr.ofEffect e a ∧ exec i s = .next (issueCode e.code a s)) ∨
    (∃ F, encode i = .sent F ∧ exec i s = .next (sendFrame F s)) ∨
    (∃ k F, encode i = .request k F ∧ exec i s = .next (sendRequest k.toNat F s)) ∨
    (∃ F, encode i = .handshake F ∧ exec i s = .next (hsReceive F s)) ∨
    (∃ F, i = .status F ∧ exec i s = .next (if s.ready then takeStatus F s else s)) ∨
    (i = .init ∧ exec i s = .next (if s.initEnabled then hsRun (hsMoves s.cfg.raw) s else s)) ∨
    (i = .poll ∧ exec i s = .next (if s.ready then pollAnswer s.readAnswer (readDone s) else s)) ∨
    i = .emit := by
  cases i
  case setFixed a => exact .inl ⟨.fixed, a, rfl, rfl⟩
  case setFading a => exact .inl ⟨.fading, a, rfl, rfl⟩
  case setSpectrumWave a => exact .inl ⟨.spectrumWave, a, rfl, rfl⟩
  case setMarquee3 a => exact .inl ⟨.marquee3, a, rfl, rfl⟩
  case setMarquee4 a => exact .inl ⟨.marquee4, a, rfl, rfl⟩
  case setMarquee5 a => exact .inl ⟨.marquee5, a, rfl, rfl⟩
  case setMarquee6 a => exact .inl ⟨.marquee6, a, rfl, rfl⟩
  case setAlternating3 a => exact .inl ⟨.alternating3, a, rfl, rfl⟩
  case setAlternating4 a => exact .inl ⟨.alternating4, a, rfl, rfl⟩
  case setAlternating5 a => exact .inl ⟨.alternating5, a, rfl, rfl⟩
  case setAlternating6 a => exact .inl ⟨.alternating6, a, rfl, rfl⟩
  case setMovingAlternating3 a => exact .inl ⟨.movingAlternating3, a, rfl, rfl⟩
  case setMovingAlternating4 a => exact .inl ⟨.movingAlternating4, a, rfl, rfl⟩
  case setMovingAlternating5 a => exact .inl ⟨.movingAlternating5, a, rfl, rfl⟩
  case setMovingAlternating6 a => exact .inl ⟨.movingAlternating6, a, rfl, rfl⟩
  case setPulse a => exact .inl ⟨.pulse, a, rfl, rfl⟩
  case setBreathing a => exact .inl ⟨.breathing, a, rfl, rfl⟩
  case setCandle a => exact .inl ⟨.candle, a, rfl, rfl⟩
  case setStarryNight a => exact .inl ⟨.starryNight, a, rfl, rfl⟩
  case setRainbowFlow a => exact .inl ⟨.rainbowFlow, a, rfl, rfl⟩
  case setSuperRainbow a => exact .inl ⟨.superRainbow, a, rfl, rfl⟩
  case setRainbowPulse a => exact .inl ⟨.rainbowPulse, a, rfl, rfl⟩
  case setLoading a => exact .inl ⟨.loading, a, rfl, rfl⟩
  case setTaiChi a => exact .inl ⟨.taiChi, a, rfl, rfl⟩
  case setWaterCooler a => exact .inl ⟨.waterCooler, a, rfl, rfl⟩
  case setWings a => exact .inl ⟨.wings, a, rfl, rfl⟩
  case setSuperFixed a => exact .inl ⟨.superFixed, a, rfl, rfl⟩
  case setSuperBreathing a => exact .inl ⟨.superBreathing, a, rfl, rfl⟩
  case setBackwardSpectrumWave a => exact .inl ⟨.backwardSpectrumWave, a, rfl, rfl⟩
  case setBackwardMarquee3 a => exact .inl ⟨.backwardMarquee3, a, rfl, rfl⟩
  case setBackwardMarquee4 a => exact .inl ⟨.backwardMarquee4, a, rfl, rfl⟩
  case setBackwardMarquee5 a => exact .inl ⟨.backwardMarquee5, a, rfl, rfl⟩
  case setBackwardMarquee6 a => exact .inl ⟨.backwardMarquee6, a, rfl, rfl⟩
  case setBackwardMovingAlternating3 a => exact .inl ⟨.backwardMovingAlternating3, a, rfl, rfl⟩
  case setBackwardMovingAlternating4 a => exact .inl ⟨.backwardMovingAlternating4, a, rfl, rfl⟩
  case setBackwardMovingAlternating5 a => exact .inl ⟨.backwardMovingAlternating5, a, rfl, rfl⟩
  case setBackwardMovingAlternating6 a => exact .inl ⟨.backwardMovingAlternating6, a, rfl, rfl⟩
  case setBackwardRainbowFlow a => exact .inl ⟨.backwardRainbowFlow, a, rfl, rfl⟩
  case setBackwardSuperRainbow a => exact .inl ⟨.backwardSuperRainbow, a, rfl, rfl⟩
  case setBackwardRainbowPulse a => exact .inl ⟨.backwardRainbowPulse, a, rfl, rfl⟩
  case light f => exact .inr (.inl ⟨_, rfl, rfl⟩)
  case palc f => exact .inr (.inl ⟨_, rfl, rfl⟩)
  case palx cid => exact .inr (.inl ⟨_, rfl, rfl⟩)
  case palt f => exact .inr (.inl ⟨_, rfl, rfl⟩)
  case zone f => exact .inr (.inl ⟨_, rfl, rfl⟩)
  case zen cid => exact .inr (.inl ⟨_, rfl, rfl⟩)
  case fwreq F => exact .inr (.inr (.inl ⟨_, _, rfl, rfl⟩))
  case ltreq F => exact .inr (.inr (.inl ⟨_, _, rfl, rfl⟩))
  case setint F => exact .inr (.inr (.inl ⟨_, _, rfl, rfl⟩))
  case ltconf F => exact .inr (.inr (.inl ⟨_, _, rfl, rfl⟩))
  case fwinfo F => exact .inr (.inr (.inr (.inl ⟨_, rfl, rfl⟩)))
  case ltinfo F => exact .inr (.inr (.inr (.inl ⟨_, rfl, rfl⟩)))
  case status F => exact .inr (.inr (.inr (.inr (.inl ⟨F, rfl, rfl⟩))))
  case init => exact .inr (.inr (.inr (.inr (.inr (.inl ⟨rfl, rfl⟩)))))
  case poll => exact .inr (.inr (.inr (.inr (.inr (.inr (.inl ⟨rfl, rfl⟩))))))
  case emit => exact .inr (.inr (.inr (.inr (.inr (.inr (.inr rfl))))))

/-! ### The handshake -/

theorem hsStep_request {s : State} (h : s.hsSent < 4) : hsStep s = requestFrame (hsReq s.cfg.raw s.hsSent) s := by
  simp [hsStep, h]

theorem hsStep_success {s : State} (h : s.hsSent = 4) (h1 : s.fwack = true) (h2 : s.ltack = true) :
    hsStep s = hsSuccess s := by
  simp [hsStep, h, h1, h2]

theorem hsStep_ceiling {s : State} (h : s.hsSent = 4) (h1 : s.fwack = false ∨ s.ltack = false)
    (h2 : s.hscnt = s.cfg.raw.hsMaxReads) : hsStep s = hsFail .handshakeTimeout s := by
  rcases h1 with h1 | h1 <;> simp [hsStep, h, h1, h2]

theorem hsStep_read {s : State} (h : s.hsSent = 4) (h1 : s.fwack = false ∨ s.ltack = false)
    (h2 : s.hscnt ≠ s.cfg.raw.hsMaxReads) : hsStep s = hsAnswer s.readAnswer (readDone s) := by
  rcases h1 with h1 | h1 <;> simp [hsStep, h, h1, h2]

theorem requestFrame_ok {s : State} {F : Frame} (h : s.writeAnswer = .ok) :
    requestFrame F s = { wrote F s with hsSent := s.hsSent + 1 } := by
  simp [requestFrame, h]

theorem requestFrame_error {s : State} {F : Frame} (h : s.writeAnswer = .transportError) :
    requestFrame F s = hsFail .transportError (writeFailed F s) := by
  simp [requestFrame, h]

theorem requestFrame_never {s : State} {F : Frame} (h : s.writeAnswer = .never) : requestFrame F s = s := by
  simp [requestFrame, h]

/-- The handshake run move by move. -/
theorem hsRun_succ {s : State} (h : s.uninit = true) (k : Nat) : hsRun (k + 1) s = hsRun k (hsStep s) := by
  simp [hsRun, h]

/-- A handshake that has ended does nothing more. -/
theorem hsRun_ended {s : State} (h : s.uninit = false) (k : Nat) : hsRun k s = s := by
  cases k <;> simp [hsRun, h]

/-- Every state a handshake's run can reach has whatever its moves keep. -/
theorem hsRun_induct {P : State → Prop} (hstep : ∀ s, s.uninit = true → P s → P (hsStep s)) (k : Nat) (s : State)
    (h : P s) : P (hsRun k s) := by
  induction k generalizing s with
  | zero => exact h
  | succ k ih =>
    by_cases hu : s.uninit = true
    · rw [hsRun_succ hu]
      exact ih _ (hstep s hu h)
    · rw [hsRun_ended (by simpa using hu)]
      exact h

/-! ### The waiting requests and the step -/

theorem firstEnabled_none {p : PortWord → Bool} {l : List PortWord} (h : ∀ q ∈ l, p q = false) :
    firstEnabled p l = none := by
  induction l with
  | nil => rfl
  | cons q qs ih =>
    have h1 := h q (by simp)
    have h2 := ih fun r hr => h r (by simp [hr])
    simp [firstEnabled, h1, h2]

theorem firstEnabled_append {p : PortWord → Bool} {before after : List PortWord} {q : PortWord}
    (h : ∀ r ∈ before, p r = false) (hq : p q = true) :
    firstEnabled p (before ++ q :: after) = some (q, before ++ after) := by
  induction before with
  | nil => simp [firstEnabled, hq]
  | cons r rs ih =>
    have h1 := h r (by simp)
    have h2 := ih fun x hx => h x (by simp [hx])
    simp [firstEnabled, h1, h2]

/-- What is fetched: the first enabled request, from its place among the others. -/
theorem firstEnabled_some {p : PortWord → Bool} {l rest : List PortWord} {q : PortWord}
    (h : firstEnabled p l = some (q, rest)) :
    ∃ before after, l = before ++ q :: after ∧ rest = before ++ after ∧ p q = true ∧ ∀ r ∈ before, p r = false := by
  induction l generalizing rest with
  | nil => simp [firstEnabled] at h
  | cons r rs ih =>
    by_cases hr : p r = true
    · simp [firstEnabled, hr] at h
      obtain ⟨rfl, rfl⟩ := h
      exact ⟨[], _, rfl, rfl, hr, by simp⟩
    · simp only [firstEnabled, hr] at h
      cases h2 : firstEnabled p rs with
      | none => simp [h2] at h
      | some x =>
        obtain ⟨x, xs⟩ := x
        simp [h2] at h
        obtain ⟨rfl, rfl⟩ := h
        obtain ⟨b, a, rfl, rfl, h3, h4⟩ := ih h2
        refine ⟨r :: b, a, rfl, rfl, h3, ?_⟩
        intro y hy
        rcases List.mem_cons.mp hy with rfl | hy
        · simpa using hr
        · exact h4 y hy

theorem fetch_some {s s1 : State} {q : PortWord} (h : fetch s = some (q, s1)) :
    s.enabled q = true ∧ ∃ qs, s1 = { s with port := qs } := by
  unfold fetch at h
  cases h1 : firstEnabled s.enabled s.port with
  | none => simp [h1] at h
  | some x =>
    obtain ⟨x, xs⟩ := x
    simp [h1] at h
    obtain ⟨rfl, rfl⟩ := h
    obtain ⟨-, -, -, -, h2, -⟩ := firstEnabled_some h1
    exact ⟨h2, xs, rfl⟩

/-- What serving a request does: the decoded instruction, or the issue of a reserved effect code. -/
theorem runRequest_cases (q : PortWord) (s : State) :
    (∃ i, decode (.port q) = .ok i ∧ runRequest q s = exec i s) ∨
    ∃ w, q = .cmd w ∧ Effect.ofCode (cmdCode w) = none ∧
      runRequest q s = .next (issueCode (cmdCode w) (cmdArgs w) s) := by
  cases q with
  | init => exact .inl ⟨.init, rfl, rfl⟩
  | poll => exact .inl ⟨.poll, rfl, rfl⟩
  | cmd w =>
    cases h : Effect.ofCode (cmdCode w) with
    | some e =>
      exact .inl ⟨Instr.ofEffect e (cmdArgs w), by simp [decode, decodeCmd, h], by simp [runRequest, decode, decodeCmd, h]⟩
    | none => exact .inr ⟨w, rfl, h, by simp [runRequest, decode, decodeCmd, h, reject]⟩

/-- What one step can do: EMIT, the handshake's next move, a served request, or nothing. -/
theorem step_cases (s : State) :
    (s.busy = true ∧ step s = exec .emit s) ∨
    (s.busy = false ∧ s.hsRunning = true ∧ step s = .next (hsStep s)) ∨
    (s.busy = false ∧ s.hsRunning = false ∧
      ((step s = .next s) ∨
       ∃ q qs, s.enabled q = true ∧
        ((∃ i, decode (.port q) = .ok i ∧ step s = exec i { s with port := qs }) ∨
         ∃ w, q = .cmd w ∧ step s = .next (issueCode (cmdCode w) (cmdArgs w) { s with port := qs })))) := by
  by_cases hb : s.busy = true
  · exact .inl ⟨hb, by rw [step, if_pos hb]⟩
  by_cases hr : s.hsRunning = true
  · exact .inr (.inl ⟨by simpa using hb, hr, by rw [step, if_neg hb, if_pos hr]⟩)
  refine .inr (.inr ⟨by simpa using hb, by simpa using hr, ?_⟩)
  rw [step, if_neg hb, if_neg hr]
  cases hf : fetch s with
  | none => exact .inl rfl
  | some x =>
    obtain ⟨q, s1⟩ := x
    obtain ⟨he, qs, rfl⟩ := fetch_some hf
    exact .inr ⟨q, qs, he, (runRequest_cases q _).imp id fun ⟨w, h1, _, h2⟩ => ⟨w, h1, h2⟩⟩

end Sys2Proof.Machine
end

