-- ==== Sys2Proof/Laws/PerInstr.lean ====
section
/-! SUPPORT. One lemma per instruction: its encoding carries the `match` of its row of spec/opcode_table.json under the row's
`mask`. -/

namespace Sys2Proof.Laws

/-- The fixed bits of a row of spec/opcode_table.json: of a command word, `CMD[7:0]` under the mask 0xFC; of a frame, the bytes at
given offsets; an operation has none. -/
inductive TablePattern where
  | cmd (m : Nat)
  | frame (fixed : List (Nat × Byte))
  | operation
deriving DecidableEq, Repr

/-- The pattern of each instruction's row, copied from the table. -/
def tablePattern : Instr → TablePattern
  | .setFixed _ => .cmd 0x00
  | .setFading _ => .cmd 0x04
  | .setSpectrumWave _ => .cmd 0x08
  | .setMarquee3 _ => .cmd 0x0C
  | .setMarquee4 _ => .cmd 0x10
  | .setMarquee5 _ => .cmd 0x14
  | .setMarquee6 _ => .cmd 0x18
  | .setAlternating3 _ => .cmd 0x1C
  | .setAlternating4 _ => .cmd 0x20
  | .setAlternating5 _ => .cmd 0x24
  | .setAlternating6 _ => .cmd 0x28
  | .setMovingAlternating3 _ => .cmd 0x2C
  | .setMovingAlternating4 _ => .cmd 0x30
  | .setMovingAlternating5 _ => .cmd 0x34
  | .setMovingAlternating6 _ => .cmd 0x38
  | .setPulse _ => .cmd 0x3C
  | .setBreathing _ => .cmd 0x40
  | .setCandle _ => .cmd 0x44
  | .setStarryNight _ => .cmd 0x48
  | .setRainbowFlow _ => .cmd 0x4C
  | .setSuperRainbow _ => .cmd 0x50
  | .setRainbowPulse _ => .cmd 0x54
  | .setLoading _ => .cmd 0x58
  | .setTaiChi _ => .cmd 0x5C
  | .setWaterCooler _ => .cmd 0x60
  | .setWings _ => .cmd 0x64
  | .setSuperFixed _ => .cmd 0x68
  | .setSuperBreathing _ => .cmd 0x6C
  | .setBackwardSpectrumWave _ => .cmd 0x70
  | .setBackwardMarquee3 _ => .cmd 0x74
  | .setBackwardMarquee4 _ => .cmd 0x78
  | .setBackwardMarquee5 _ => .cmd 0x7C
  | .setBackwardMarquee6 _ => .cmd 0x80
  | .setBackwardMovingAlternating3 _ => .cmd 0x84
  | .setBackwardMovingAlternating4 _ => .cmd 0x88
  | .setBackwardMovingAlternating5 _ => .cmd 0x8C
  | .setBackwardMovingAlternating6 _ => .cmd 0x90
  | .setBackwardRainbowFlow _ => .cmd 0x94
  | .setBackwardSuperRainbow _ => .cmd 0x98
  | .setBackwardRainbowPulse _ => .cmd 0x9C
  | .light _ => .frame [(0, 0x2A), (1, 0x04)]
  | .palc _ => .frame [(0, 0x22), (1, 0x10)]
  | .palx _ => .frame [(0, 0x22), (1, 0x11)]
  | .palt _ => .frame [(0, 0x22), (1, 0xA0)]
  | .zone _ => .frame [(0, 0x22), (1, 0x20)]
  | .zen _ => .frame [(0, 0x22), (1, 0x03), (3, 0x08)]
  | .fwreq _ => .frame [(0, 0x10)]
  | .ltreq _ => .frame [(0, 0x20)]
  | .setint _ => .frame [(0, 0x70)]
  | .ltconf _ => .frame []
  | .fwinfo _ => .frame [(0, 0x11), (1, 0x01)]
  | .ltinfo _ => .frame [(0, 0x21), (1, 0x03)]
  | .status _ => .frame []
  | .init => .operation
  | .poll => .operation
  | .emit => .operation

/-- Raw bits carry the fixed bits of a pattern. -/
def fits : Raw → TablePattern → Prop
  | .port (.cmd w), .cmd m => w.head.toNat &&& 0xFC = m
  | .sent F, .frame l => ∀ p ∈ l, F.get p.1 = p.2
  | .request _ F, .frame l => ∀ p ∈ l, F.get p.1 = p.2
  | .handshake F, .frame l => ∀ p ∈ l, F.get p.1 = p.2
  | .telemetry F, .frame l => ∀ p ∈ l, F.get p.1 = p.2
  | .port .init, .operation => True
  | .port .poll, .operation => True
  | .emit, .operation => True
  | _, _ => False

/-- A well-formed instruction's encoding fits its row of the opcode table. -/
def TableRow.Statement (i : Instr) : Prop := i.wellFormed = true → fits (encode i) (tablePattern i)

theorem fits_set (e : Effect) (a : CmdArgs) : TableRow.Statement (Instr.ofEffect e a) := by
  intro _
  have h := encodeCmd_mask e.code a
  rw [Effect.code_toNat] at h
  rw [encode_ofEffect]
  cases e <;> exact h

theorem fits_two {F : Frame} {x y : Byte} (h0 : F.get 0 = x) (h1 : F.get 1 = y) :
    fits (.sent F) (.frame [(0, x), (1, y)]) := by
  simp [fits, h0, h1]

theorem TableRow.setFixed (a : CmdArgs) : TableRow.Statement (.setFixed a) := fits_set .fixed a
theorem TableRow.setFading (a : CmdArgs) : TableRow.Statement (.setFading a) := fits_set .fading a
theorem TableRow.setSpectrumWave (a : CmdArgs) : TableRow.Statement (.setSpectrumWave a) := fits_set .spectrumWave a
theorem TableRow.setMarquee3 (a : CmdArgs) : TableRow.Statement (.setMarquee3 a) := fits_set .marquee3 a
theorem TableRow.setMarquee4 (a : CmdArgs) : TableRow.Statement (.setMarquee4 a) := fits_set .marquee4 a
theorem TableRow.setMarquee5 (a : CmdArgs) : TableRow.Statement (.setMarquee5 a) := fits_set .marquee5 a
theorem TableRow.setMarquee6 (a : CmdArgs) : TableRow.Statement (.setMarquee6 a) := fits_set .marquee6 a
theorem TableRow.setAlternating3 (a : CmdArgs) : TableRow.Statement (.setAlternating3 a) := fits_set .alternating3 a
theorem TableRow.setAlternating4 (a : CmdArgs) : TableRow.Statement (.setAlternating4 a) := fits_set .alternating4 a
theorem TableRow.setAlternating5 (a : CmdArgs) : TableRow.Statement (.setAlternating5 a) := fits_set .alternating5 a
theorem TableRow.setAlternating6 (a : CmdArgs) : TableRow.Statement (.setAlternating6 a) := fits_set .alternating6 a
theorem TableRow.setMovingAlternating3 (a : CmdArgs) : TableRow.Statement (.setMovingAlternating3 a) := fits_set .movingAlternating3 a
theorem TableRow.setMovingAlternating4 (a : CmdArgs) : TableRow.Statement (.setMovingAlternating4 a) := fits_set .movingAlternating4 a
theorem TableRow.setMovingAlternating5 (a : CmdArgs) : TableRow.Statement (.setMovingAlternating5 a) := fits_set .movingAlternating5 a
theorem TableRow.setMovingAlternating6 (a : CmdArgs) : TableRow.Statement (.setMovingAlternating6 a) := fits_set .movingAlternating6 a
theorem TableRow.setPulse (a : CmdArgs) : TableRow.Statement (.setPulse a) := fits_set .pulse a
theorem TableRow.setBreathing (a : CmdArgs) : TableRow.Statement (.setBreathing a) := fits_set .breathing a
theorem TableRow.setCandle (a : CmdArgs) : TableRow.Statement (.setCandle a) := fits_set .candle a
theorem TableRow.setStarryNight (a : CmdArgs) : TableRow.Statement (.setStarryNight a) := fits_set .starryNight a
theorem TableRow.setRainbowFlow (a : CmdArgs) : TableRow.Statement (.setRainbowFlow a) := fits_set .rainbowFlow a
theorem TableRow.setSuperRainbow (a : CmdArgs) : TableRow.Statement (.setSuperRainbow a) := fits_set .superRainbow a
theorem TableRow.setRainbowPulse (a : CmdArgs) : TableRow.Statement (.setRainbowPulse a) := fits_set .rainbowPulse a
theorem TableRow.setLoading (a : CmdArgs) : TableRow.Statement (.setLoading a) := fits_set .loading a
theorem TableRow.setTaiChi (a : CmdArgs) : TableRow.Statement (.setTaiChi a) := fits_set .taiChi a
theorem TableRow.setWaterCooler (a : CmdArgs) : TableRow.Statement (.setWaterCooler a) := fits_set .waterCooler a
theorem TableRow.setWings (a : CmdArgs) : TableRow.Statement (.setWings a) := fits_set .wings a
theorem TableRow.setSuperFixed (a : CmdArgs) : TableRow.Statement (.setSuperFixed a) := fits_set .superFixed a
theorem TableRow.setSuperBreathing (a : CmdArgs) : TableRow.Statement (.setSuperBreathing a) := fits_set .superBreathing a
theorem TableRow.setBackwardSpectrumWave (a : CmdArgs) : TableRow.Statement (.setBackwardSpectrumWave a) := fits_set .backwardSpectrumWave a
theorem TableRow.setBackwardMarquee3 (a : CmdArgs) : TableRow.Statement (.setBackwardMarquee3 a) := fits_set .backwardMarquee3 a
theorem TableRow.setBackwardMarquee4 (a : CmdArgs) : TableRow.Statement (.setBackwardMarquee4 a) := fits_set .backwardMarquee4 a
theorem TableRow.setBackwardMarquee5 (a : CmdArgs) : TableRow.Statement (.setBackwardMarquee5 a) := fits_set .backwardMarquee5 a
theorem TableRow.setBackwardMarquee6 (a : CmdArgs) : TableRow.Statement (.setBackwardMarquee6 a) := fits_set .backwardMarquee6 a
theorem TableRow.setBackwardMovingAlternating3 (a : CmdArgs) : TableRow.Statement (.setBackwardMovingAlternating3 a) := fits_set .backwardMovingAlternating3 a
theorem TableRow.setBackwardMovingAlternating4 (a : CmdArgs) : TableRow.Statement (.setBackwardMovingAlternating4 a) := fits_set .backwardMovingAlternating4 a
theorem TableRow.setBackwardMovingAlternating5 (a : CmdArgs) : TableRow.Statement (.setBackwardMovingAlternating5 a) := fits_set .backwardMovingAlternating5 a
theorem TableRow.setBackwardMovingAlternating6 (a : CmdArgs) : TableRow.Statement (.setBackwardMovingAlternating6 a) := fits_set .backwardMovingAlternating6 a
theorem TableRow.setBackwardRainbowFlow (a : CmdArgs) : TableRow.Statement (.setBackwardRainbowFlow a) := fits_set .backwardRainbowFlow a
theorem TableRow.setBackwardSuperRainbow (a : CmdArgs) : TableRow.Statement (.setBackwardSuperRainbow a) := fits_set .backwardSuperRainbow a
theorem TableRow.setBackwardRainbowPulse (a : CmdArgs) : TableRow.Statement (.setBackwardRainbowPulse a) := fits_set .backwardRainbowPulse a
theorem TableRow.light (f : LightFields) : TableRow.Statement (.light f) := fun _ => fits_two rfl rfl
theorem TableRow.palc (f : PalcFields) : TableRow.Statement (.palc f) := fun _ => fits_two rfl rfl
theorem TableRow.palx (cid : Channel) : TableRow.Statement (.palx cid) := fun _ => fits_two rfl rfl
theorem TableRow.palt (f : PaltFields) : TableRow.Statement (.palt f) := fun _ => fits_two rfl rfl
theorem TableRow.zone (f : ZoneFields) : TableRow.Statement (.zone f) := fun _ => fits_two rfl rfl
theorem TableRow.zen (cid : Channel) : TableRow.Statement (.zen cid) := fun _ => by
  simp [encode, fits, tablePattern, encodeZen, pad64_get]
theorem TableRow.fwreq (f : Frame) : TableRow.Statement (.fwreq f) := fun h => by
  simpa [encode, fits, tablePattern, Instr.wellFormed, Frame.tag] using h
theorem TableRow.ltreq (f : Frame) : TableRow.Statement (.ltreq f) := fun h => by
  simpa [encode, fits, tablePattern, Instr.wellFormed, Frame.tag] using h
theorem TableRow.setint (f : Frame) : TableRow.Statement (.setint f) := fun h => by
  simpa [encode, fits, tablePattern, Instr.wellFormed, Frame.tag] using h
theorem TableRow.ltconf (f : Frame) : TableRow.Statement (.ltconf f) := fun _ => by
  simp [encode, fits, tablePattern]
theorem TableRow.fwinfo (f : Frame) : TableRow.Statement (.fwinfo f) := fun h => by
  simpa [encode, fits, tablePattern, Instr.wellFormed, Frame.tag] using h
theorem TableRow.ltinfo (f : Frame) : TableRow.Statement (.ltinfo f) := fun h => by
  simpa [encode, fits, tablePattern, Instr.wellFormed, Frame.tag] using h
theorem TableRow.status (f : Frame) : TableRow.Statement (.status f) := fun _ => by
  simp [encode, fits, tablePattern]
theorem TableRow.init : TableRow.Statement .init := fun _ => trivial
theorem TableRow.poll : TableRow.Statement .poll := fun _ => trivial
theorem TableRow.emit : TableRow.Statement .emit := fun _ => trivial

end Sys2Proof.Laws
end

