-- ==== Sys2Proof/Laws/Receive.lean ====
section
/-! SUPPORT. What DEC and the handshake's read loop make of a received frame, said once in the bytes of the frame. -/

namespace Sys2Proof.Machine

/-- The status fields lie inside the frame. -/
theorem Cfg.status_offsets (c : Cfg) : c.raw.stTemp + 1 < 64 ∧ c.raw.stRpm + 1 < 64 ∧ c.raw.stDuty < 64 := by
  have := c.passes .statusOffsets
  simp only [RawCfg.passes, Bool.and_eq_true, decide_eq_true_eq] at this
  omega

/-- The version bytes lie inside the frame. -/
theorem Cfg.version_offsets (c : Cfg) : c.raw.fwv0 < 64 ∧ c.raw.fwv1 < 64 ∧ c.raw.fwv2 < 64 := by
  have := c.passes .versionOffsets
  simpa [RawCfg.passes] using this

/-- The read loop may make two reads at least. -/
theorem Cfg.two_reads (c : Cfg) : 2 ≤ c.raw.hsMaxReads := by
  have := c.passes .readCeiling
  simpa [RawCfg.passes] using this

/-- What DEC decodes from a buffer loaded with a frame: five bytes of the frame. -/
theorem decodeStatus_memLoad (c : Cfg) {m : Memory} (hm : Memory.wf m = true) (F : Frame) :
    decodeStatus c.raw (memLoad m F) =
      ⟨10 * (F.get c.raw.stTemp).toNat + (F.get (c.raw.stTemp + 1)).toNat,
       BitVec.ofNat 16 ((F.get c.raw.stRpm).toNat + 256 * (F.get (c.raw.stRpm + 1)).toNat), F.get c.raw.stDuty⟩ := by
  obtain ⟨h1, h2, h3⟩ := Cfg.status_offsets c
  simp only [decodeStatus, memRead16, le16]
  rw [memRead_memLoad F hm (by omega), memRead_memLoad F hm (by omega), memRead_memLoad F hm (by omega),
    memRead_memLoad F hm (by omega), memRead_memLoad F hm (by omega)]

theorem Frame.tag_eq (F : Frame) (a b : Byte) : F.tag = (a, b) ↔ F.get 0 = a ∧ F.get 1 = b := by simp [Frame.tag]

/-- A frame with the firmware tag gives the version and its acknowledgement. -/
theorem hsFrame_fwinfo {s : State} {F : Frame} (hw : Memory.wf s.rxf = true) (ht : F.tag = (0x11, 0x01)) :
    hsFrame F s = { s with
      rxf := memLoad s.rxf F
      fwver := ⟨F.get s.cfg.raw.fwv0, F.get s.cfg.raw.fwv1, F.get s.cfg.raw.fwv2⟩
      fwack := true } := by
  obtain ⟨h0, h1⟩ := (Frame.tag_eq _ _ _).mp ht
  obtain ⟨v0, v1, v2⟩ := Cfg.version_offsets s.cfg
  unfold hsFrame receive
  simp only
  rw [memRead_memLoad F hw (by omega), memRead_memLoad F hw (by omega), memRead_memLoad F hw (by omega),
    memRead_memLoad F hw (by omega), memRead_memLoad F hw (by omega), if_pos ⟨h0, h1⟩]

/-- A frame with the lighting tag gives its acknowledgement. -/
theorem hsFrame_ltinfo {s : State} {F : Frame} (hw : Memory.wf s.rxf = true) (ht : F.tag = (0x21, 0x03)) :
    hsFrame F s = { s with rxf := memLoad s.rxf F, ltack := true } := by
  obtain ⟨h0, h1⟩ := (Frame.tag_eq _ _ _).mp ht
  unfold hsFrame receive
  simp only
  rw [memRead_memLoad F hw (by omega), memRead_memLoad F hw (by omega), if_neg (by rw [h0]; simp), if_pos ⟨h0, h1⟩]

/-- Any other frame is read and ignored. -/
theorem hsFrame_other {s : State} {F : Frame} (hw : Memory.wf s.rxf = true) (h1 : F.tag ≠ (0x11, 0x01))
    (h2 : F.tag ≠ (0x21, 0x03)) : hsFrame F s = { s with rxf := memLoad s.rxf F } := by
  rw [ne_eq, Frame.tag_eq] at h1 h2
  unfold hsFrame receive
  simp only
  rw [memRead_memLoad F hw (by omega), memRead_memLoad F hw (by omega), if_neg h1, if_neg h2]

end Sys2Proof.Machine
end

