-- ==== Sys2Proof/Machine/Assembler.lean ====
section
/-! DEFINITION. The notation for operations of spec/30_encoding.md R91 (decision D26), one operation a line, and the request of the
port that it stands for. -/

namespace Sys2Proof

/-- The name of an effect (R72). -/
def Effect.name : Effect → String
  | .fixed => "Fixed"
  | .fading => "Fading"
  | .spectrumWave => "SpectrumWave"
  | .marquee3 => "Marquee3"
  | .marquee4 => "Marquee4"
  | .marquee5 => "Marquee5"
  | .marquee6 => "Marquee6"
  | .alternating3 => "Alternating3"
  | .alternating4 => "Alternating4"
  | .alternating5 => "Alternating5"
  | .alternating6 => "Alternating6"
  | .movingAlternating3 => "MovingAlternating3"
  | .movingAlternating4 => "MovingAlternating4"
  | .movingAlternating5 => "MovingAlternating5"
  | .movingAlternating6 => "MovingAlternating6"
  | .pulse => "Pulse"
  | .breathing => "Breathing"
  | .candle => "Candle"
  | .starryNight => "StarryNight"
  | .rainbowFlow => "RainbowFlow"
  | .superRainbow => "SuperRainbow"
  | .rainbowPulse => "RainbowPulse"
  | .loading => "Loading"
  | .taiChi => "TaiChi"
  | .waterCooler => "WaterCooler"
  | .wings => "Wings"
  | .superFixed => "SuperFixed"
  | .superBreathing => "SuperBreathing"
  | .backwardSpectrumWave => "BackwardSpectrumWave"
  | .backwardMarquee3 => "BackwardMarquee3"
  | .backwardMarquee4 => "BackwardMarquee4"
  | .backwardMarquee5 => "BackwardMarquee5"
  | .backwardMarquee6 => "BackwardMarquee6"
  | .backwardMovingAlternating3 => "BackwardMovingAlternating3"
  | .backwardMovingAlternating4 => "BackwardMovingAlternating4"
  | .backwardMovingAlternating5 => "BackwardMovingAlternating5"
  | .backwardMovingAlternating6 => "BackwardMovingAlternating6"
  | .backwardRainbowFlow => "BackwardRainbowFlow"
  | .backwardSuperRainbow => "BackwardSuperRainbow"
  | .backwardRainbowPulse => "BackwardRainbowPulse"

/-- The name of a channel (R91). -/
def Channel.name : Channel → String
  | .external => "external"
  | .ring     => "ring"
  | .logo     => "logo"
  | .sync     => "sync"

/-- The value of a hexadecimal digit. -/
def hexDigit (c : Char) : Option Nat :=
  let v := c.toNat
  if 48 ≤ v ∧ v ≤ 57 then some (v - 48)
  else if 65 ≤ v ∧ v ≤ 70 then some (v - 55)
  else if 97 ≤ v ∧ v ≤ 102 then some (v - 87)
  else none

/-- The byte of two hexadecimal digits. -/
def hexByte (hi lo : Char) : Option Byte := do
  let h ← hexDigit hi
  let l ← hexDigit lo
  return BitVec.ofNat 8 (16 * h + l)

/-- A colour: `#` and six hexadecimal digits, red first (R91). -/
def colourOfName : List Char → Option Colour
  | ['#', r1, r0, g1, g0, b1, b0] => do
    let r ← hexByte r1 r0
    let g ← hexByte g1 g0
    let b ← hexByte b1 b0
    return ⟨r, g, b⟩
  | _ => none

/-- A speed level: 0..4 (R73, R91). -/
def speedOfName : List Char → Option (BitVec 3)
  | ['0'] => some 0
  | ['1'] => some 1
  | ['2'] => some 2
  | ['3'] => some 3
  | ['4'] => some 4
  | _ => none

/-- The characters of a line up to a `;`, which begins a comment. -/
def dropComment : List Char → List Char
  | [] => []
  | c :: cs => if c = ';' then [] else c :: dropComment cs

/-- The words of a line, which blanks separate: the word that is being read, and those after it. -/
def splitWords : List Char → List Char × List (List Char)
  | [] => ([], [])
  | c :: cs =>
    let (w, ws) := splitWords cs
    if c = ' ' then ([], if w = [] then ws else w :: ws) else (c :: w, ws)

/-- The words of a line. -/
def lineWords (cs : List Char) : List (List Char) :=
  match splitWords (dropComment cs) with
  | ([], ws) => ws
  | (w, ws)  => w :: ws

/-- The request a line of R91 stands for; `none` where it is no operation. `sync` is one command with its own channel id, and at
most 63 colours can be counted in a command word (R70). -/
def assemble (line : String) : Option PortWord :=
  match lineWords line.toList with
  | [['I', 'N', 'I', 'T']] => some .init
  | [['P', 'O', 'L', 'L']] => some .poll
  | ['S', 'E', 'T'] :: ch :: eff :: spd :: cols => do
    let ch ← [Channel.external, .ring, .logo, .sync].find? fun x => x.name.toList = ch
    let e ← Effect.all.find? fun x => x.name.toList = eff
    let s ← speedOfName spd
    let cs ← cols.mapM colourOfName
    if 63 < cs.length then none
    else return .cmd (encodeCmd e.code ⟨ch, s, BitVec.ofNat 6 cs.length, ColourRegs.ofList cs⟩)
  | _ => none

end Sys2Proof
end

