-- ==== Sys2Proof/Tests/Slice0.lean ====
section
/-! SUPPORT. Tests of the model, and the witnesses of the statements' hypotheses. Expected bytes are those of
spec/95_test_vectors.md, whose section and vector each test names; words of the command port are written out bit by bit from the
`encoding` of spec/opcode_table.json. The configuration is CFG-T of that file, which is not the device's (decision D33). -/

namespace Sys2Proof.Tests

open Sys2Proof Sys2Proof.Machine

-- One theorem at a time: a thread for each would need more memory than check.sh allows.
set_option Elab.async false

/-! ### States and operands -/

/-- The state after reset under CFG-T with an empty receive queue. -/
def fresh : State := { State.reset with cfg := cfgT, rxBuf := [] }

/-- A session that has made the handshake in two reads. -/
def ready : State :=
  { fresh with fwack := true, ltack := true, init := true, hscnt := 2, hsSent := 4, txlog := requests rawCfgT, txN := 4,
               devRx := requests rawCfgT }

/-- The colour `#0A141E` of E7. -/
def e7 : Colour := ⟨0x0A, 0x14, 0x1E⟩

/-- The operands of `SET ring <Effect> 2` with `n` colours `#0A141E`. -/
def ring2 (n : Nat) : CmdArgs := ⟨.ring, 2, BitVec.ofNat 6 n, ColourRegs.ofList (List.replicate n e7)⟩

/-- The instruction a command word is. -/
def cmd (w : Nat) : Except Reject Instr := decode (.port (.cmd (CmdWord.ofNat w)))

/-- The state after, if there is one. -/
def after (o : Outcome) (s : State) : State :=
  match o with
  | .next t => t
  | _ => s

/-- Bytes 0..6 and 55..59 of the one frame a command has loaded. -/
def light (o : Outcome) : Option (List Byte × List Byte) :=
  match o with
  | .next t =>
    match t.fl with
    | [F] => if t.busy ∧ t.fi = 0 ∧ t.err = .none then some (F.slice 0 7, F.slice 55 5) else none
    | _ => none
  | _ => none

/-! ### SET: decoding (R70, R72) and the frame loaded (spec/95_test_vectors.md 3.3) -/

theorem test_decode_setFixed :
    cmd (0b00000100000000000 + 0x014080 * 2 ^ 17)
      = .ok (.setFixed ⟨.external, 0, 1, ColourRegs.ofList [⟨0x01, 0x40, 0x80⟩]⟩) := by
  decide +kernel

theorem test_run_setFixed :
    light (exec (.setFixed (ring2 1)) ready)
      = some ([0x2A, 0x04, 0x02, 0x02, 0x40, 0x02, 0xA0], [0x00, 0x00, 0x08, 0x01, 0x03]) := by
  decide +kernel

theorem test_decode_setFading :
    cmd (0b00100000100000101 + 0x024181 * 2 ^ 17)
      = .ok (.setFading ⟨.ring, 1, 8, ColourRegs.ofList [⟨0x02, 0x41, 0x81⟩]⟩) := by
  decide +kernel

theorem test_run_setFading :
    light (exec (.setFading (ring2 1)) ready)
      = some ([0x2A, 0x04, 0x02, 0x02, 0x41, 0x12, 0xA1], [0x00, 0x08, 0x08, 0x01, 0x03]) := by
  decide +kernel

theorem test_decode_setSpectrumWave :
    cmd (0b00111101000001010 + 0x034282 * 2 ^ 17)
      = .ok (.setSpectrumWave ⟨.logo, 2, 15, ColourRegs.ofList [⟨0x03, 0x42, 0x82⟩]⟩) := by
  decide +kernel

theorem test_run_setSpectrumWave :
    light (exec (.setSpectrumWave (ring2 0)) ready)
      = some ([0x2A, 0x04, 0x02, 0x02, 0x42, 0x22, 0xA2], [0x00, 0x00, 0x08, 0x00, 0x03]) := by
  decide +kernel

theorem test_decode_setMarquee3 :
    cmd (0b01011001100001111 + 0x044383 * 2 ^ 17)
      = .ok (.setMarquee3 ⟨.sync, 3, 22, ColourRegs.ofList [⟨0x04, 0x43, 0x83⟩]⟩) := by
  decide +kernel

theorem test_run_setMarquee3 :
    light (exec (.setMarquee3 (ring2 1)) ready)
      = some ([0x2A, 0x04, 0x02, 0x02, 0x03, 0x32, 0xA3], [0x04, 0x00, 0x08, 0x01, 0x03]) := by
  decide +kernel

theorem test_decode_setMarquee4 :
    cmd (0b01110110000010000 + 0x054484 * 2 ^ 17)
      = .ok (.setMarquee4 ⟨.external, 4, 29, ColourRegs.ofList [⟨0x05, 0x44, 0x84⟩]⟩) := by
  decide +kernel

theorem test_run_setMarquee4 :
    light (exec (.setMarquee4 (ring2 1)) ready)
      = some ([0x2A, 0x04, 0x02, 0x02, 0x03, 0x42, 0xA4], [0x04, 0x00, 0x08, 0x01, 0x04]) := by
  decide +kernel

theorem test_decode_setMarquee5 :
    cmd (0b10010010100010101 + 0x064585 * 2 ^ 17)
      = .ok (.setMarquee5 ⟨.ring, 5, 36, ColourRegs.ofList [⟨0x06, 0x45, 0x85⟩]⟩) := by
  decide +kernel

theorem test_run_setMarquee5 :
    light (exec (.setMarquee5 (ring2 1)) ready)
      = some ([0x2A, 0x04, 0x02, 0x02, 0x03, 0x52, 0xA5], [0x04, 0x00, 0x08, 0x01, 0x05]) := by
  decide +kernel

theorem test_decode_setMarquee6 :
    cmd (0b10101111000011010 + 0x074686 * 2 ^ 17)
      = .ok (.setMarquee6 ⟨.logo, 6, 43, ColourRegs.ofList [⟨0x07, 0x46, 0x86⟩]⟩) := by
  decide +kernel

theorem test_run_setMarquee6 :
    light (exec (.setMarquee6 (ring2 1)) ready)
      = some ([0x2A, 0x04, 0x02, 0x02, 0x03, 0x62, 0xA6], [0x04, 0x00, 0x08, 0x01, 0x06]) := by
  decide +kernel

theorem test_decode_setAlternating3 :
    cmd (0b11001011100011111 + 0x084787 * 2 ^ 17)
      = .ok (.setAlternating3 ⟨.sync, 7, 50, ColourRegs.ofList [⟨0x08, 0x47, 0x87⟩]⟩) := by
  decide +kernel

theorem test_run_setAlternating3 :
    light (exec (.setAlternating3 (ring2 1)) ready)
      = some ([0x2A, 0x04, 0x02, 0x02, 0x05, 0x72, 0xA7], [0x00, 0x00, 0x08, 0x01, 0x03]) := by
  decide +kernel

theorem test_decode_setAlternating4 :
    cmd (0b11100100000100000 + 0x094888 * 2 ^ 17)
      = .ok (.setAlternating4 ⟨.external, 0, 57, ColourRegs.ofList [⟨0x09, 0x48, 0x88⟩]⟩) := by
  decide +kernel

theorem test_run_setAlternating4 :
    light (exec (.setAlternating4 (ring2 1)) ready)
      = some ([0x2A, 0x04, 0x02, 0x02, 0x05, 0x82, 0xA8], [0x00, 0x00, 0x08, 0x01, 0x04]) := by
  decide +kernel

theorem test_decode_setAlternating5 :
    cmd (0b00000000100100101 + 0x0A4989 * 2 ^ 17)
      = .ok (.setAlternating5 ⟨.ring, 1, 0, ColourRegs.ofList [⟨0x0A, 0x49, 0x89⟩]⟩) := by
  decide +kernel

theorem test_run_setAlternating5 :
    light (exec (.setAlternating5 (ring2 1)) ready)
      = some ([0x2A, 0x04, 0x02, 0x02, 0x05, 0x92, 0xA9], [0x00, 0x00, 0x08, 0x01, 0x05]) := by
  decide +kernel

theorem test_decode_setAlternating6 :
    cmd (0b00011101000101010 + 0x0B4A8A * 2 ^ 17)
      = .ok (.setAlternating6 ⟨.logo, 2, 7, ColourRegs.ofList [⟨0x0B, 0x4A, 0x8A⟩]⟩) := by
  decide +kernel

theorem test_run_setAlternating6 :
    light (exec (.setAlternating6 (ring2 1)) ready)
      = some ([0x2A, 0x04, 0x02, 0x02, 0x05, 0xA2, 0xAA], [0x00, 0x00, 0x08, 0x01, 0x06]) := by
  decide +kernel

theorem test_decode_setMovingAlternating3 :
    cmd (0b00111001100101111 + 0x0C4B8B * 2 ^ 17)
      = .ok (.setMovingAlternating3 ⟨.sync, 3, 14, ColourRegs.ofList [⟨0x0C, 0x4B, 0x8B⟩]⟩) := by
  decide +kernel

theorem test_run_setMovingAlternating3 :
    light (exec (.setMovingAlternating3 (ring2 1)) ready)
      = some ([0x2A, 0x04, 0x02, 0x02, 0x05, 0xB2, 0xAB], [0x01, 0x00, 0x08, 0x01, 0x03]) := by
  decide +kernel

theorem test_decode_setMovingAlternating4 :
    cmd (0b01010110000110000 + 0x0D4C8C * 2 ^ 17)
      = .ok (.setMovingAlternating4 ⟨.external, 4, 21, ColourRegs.ofList [⟨0x0D, 0x4C, 0x8C⟩]⟩) := by
  decide +kernel

theorem test_run_setMovingAlternating4 :
    light (exec (.setMovingAlternating4 (ring2 1)) ready)
      = some ([0x2A, 0x04, 0x02, 0x02, 0x05, 0x02, 0xA0], [0x01, 0x00, 0x08, 0x01, 0x04]) := by
  decide +kernel

theorem test_decode_setMovingAlternating5 :
    cmd (0b01110010100110101 + 0x0E4D8D * 2 ^ 17)
      = .ok (.setMovingAlternating5 ⟨.ring, 5, 28, ColourRegs.ofList [⟨0x0E, 0x4D, 0x8D⟩]⟩) := by
  decide +kernel

theorem test_run_setMovingAlternating5 :
    light (exec (.setMovingAlternating5 (ring2 1)) ready)
      = some ([0x2A, 0x04, 0x02, 0x02, 0x05, 0x12, 0xA1], [0x01, 0x00, 0x08, 0x01, 0x05]) := by
  decide +kernel

theorem test_decode_setMovingAlternating6 :
    cmd (0b10001111000111010 + 0x0F4E8E * 2 ^ 17)
      = .ok (.setMovingAlternating6 ⟨.logo, 6, 35, ColourRegs.ofList [⟨0x0F, 0x4E, 0x8E⟩]⟩) := by
  decide +kernel

theorem test_run_setMovingAlternating6 :
    light (exec (.setMovingAlternating6 (ring2 1)) ready)
      = some ([0x2A, 0x04, 0x02, 0x02, 0x05, 0x22, 0xA2], [0x01, 0x00, 0x08, 0x01, 0x06]) := by
  decide +kernel

theorem test_decode_setPulse :
    cmd (0b10101011100111111 + 0x104F8F * 2 ^ 17)
      = .ok (.setPulse ⟨.sync, 7, 42, ColourRegs.ofList [⟨0x10, 0x4F, 0x8F⟩]⟩) := by
  decide +kernel

theorem test_run_setPulse :
    light (exec (.setPulse (ring2 1)) ready)
      = some ([0x2A, 0x04, 0x02, 0x02, 0x4F, 0x32, 0xA3], [0x00, 0x08, 0x08, 0x01, 0x03]) := by
  decide +kernel

theorem test_decode_setBreathing :
    cmd (0b11000100001000000 + 0x115090 * 2 ^ 17)
      = .ok (.setBreathing ⟨.external, 0, 49, ColourRegs.ofList [⟨0x11, 0x50, 0x90⟩]⟩) := by
  decide +kernel

theorem test_run_setBreathing :
    light (exec (.setBreathing (ring2 1)) ready)
      = some ([0x2A, 0x04, 0x02, 0x02, 0x50, 0x42, 0xA4], [0x00, 0x08, 0x08, 0x01, 0x03]) := by
  decide +kernel

theorem test_decode_setCandle :
    cmd (0b11100000101000101 + 0x125191 * 2 ^ 17)
      = .ok (.setCandle ⟨.ring, 1, 56, ColourRegs.ofList [⟨0x12, 0x51, 0x91⟩]⟩) := by
  decide +kernel

theorem test_run_setCandle :
    light (exec (.setCandle (ring2 1)) ready)
      = some ([0x2A, 0x04, 0x02, 0x02, 0x51, 0x52, 0xA5], [0x00, 0x00, 0x08, 0x01, 0x03]) := by
  decide +kernel

theorem test_decode_setStarryNight :
    cmd (0b11111101001001010 + 0x135292 * 2 ^ 17)
      = .ok (.setStarryNight ⟨.logo, 2, 63, ColourRegs.ofList [⟨0x13, 0x52, 0x92⟩]⟩) := by
  decide +kernel

theorem test_run_setStarryNight :
    light (exec (.setStarryNight (ring2 1)) ready)
      = some ([0x2A, 0x04, 0x02, 0x02, 0x52, 0x62, 0xA6], [0x01, 0x00, 0x08, 0x01, 0x03]) := by
  decide +kernel

theorem test_decode_setRainbowFlow :
    cmd (0b00011001101001111 + 0x145393 * 2 ^ 17)
      = .ok (.setRainbowFlow ⟨.sync, 3, 6, ColourRegs.ofList [⟨0x14, 0x53, 0x93⟩]⟩) := by
  decide +kernel

theorem test_run_setRainbowFlow :
    light (exec (.setRainbowFlow (ring2 0)) ready)
      = some ([0x2A, 0x04, 0x02, 0x02, 0x53, 0x72, 0xA7], [0x00, 0x00, 0x08, 0x00, 0x03]) := by
  decide +kernel

theorem test_decode_setSuperRainbow :
    cmd (0b00110110001010000 + 0x155494 * 2 ^ 17)
      = .ok (.setSuperRainbow ⟨.external, 4, 13, ColourRegs.ofList [⟨0x15, 0x54, 0x94⟩]⟩) := by
  decide +kernel

theorem test_run_setSuperRainbow :
    light (exec (.setSuperRainbow (ring2 0)) ready)
      = some ([0x2A, 0x04, 0x02, 0x02, 0x54, 0x82, 0xA8], [0x00, 0x00, 0x08, 0x00, 0x03]) := by
  decide +kernel

theorem test_decode_setRainbowPulse :
    cmd (0b01010010101010101 + 0x165595 * 2 ^ 17)
      = .ok (.setRainbowPulse ⟨.ring, 5, 20, ColourRegs.ofList [⟨0x16, 0x55, 0x95⟩]⟩) := by
  decide +kernel

theorem test_run_setRainbowPulse :
    light (exec (.setRainbowPulse (ring2 0)) ready)
      = some ([0x2A, 0x04, 0x02, 0x02, 0x55, 0x92, 0xA9], [0x00, 0x00, 0x08, 0x00, 0x03]) := by
  decide +kernel

theorem test_decode_setLoading :
    cmd (0b01101111001011010 + 0x175696 * 2 ^ 17)
      = .ok (.setLoading ⟨.logo, 6, 27, ColourRegs.ofList [⟨0x17, 0x56, 0x96⟩]⟩) := by
  decide +kernel

theorem test_run_setLoading :
    light (exec (.setLoading (ring2 1)) ready)
      = some ([0x2A, 0x04, 0x02, 0x02, 0x56, 0xA2, 0xAA], [0x00, 0x04, 0x08, 0x01, 0x03]) := by
  decide +kernel

theorem test_decode_setTaiChi :
    cmd (0b10001011101011111 + 0x185797 * 2 ^ 17)
      = .ok (.setTaiChi ⟨.sync, 7, 34, ColourRegs.ofList [⟨0x18, 0x57, 0x97⟩]⟩) := by
  decide +kernel

theorem test_run_setTaiChi :
    light (exec (.setTaiChi (ring2 1)) ready)
      = some ([0x2A, 0x04, 0x02, 0x02, 0x57, 0xB2, 0xAB], [0x00, 0x05, 0x08, 0x01, 0x03]) := by
  decide +kernel

theorem test_decode_setWaterCooler :
    cmd (0b10100100001100000 + 0x195898 * 2 ^ 17)
      = .ok (.setWaterCooler ⟨.external, 0, 41, ColourRegs.ofList [⟨0x19, 0x58, 0x98⟩]⟩) := by
  decide +kernel

theorem test_run_setWaterCooler :
    light (exec (.setWaterCooler (ring2 2)) ready)
      = some ([0x2A, 0x04, 0x02, 0x02, 0x58, 0x02, 0xA0], [0x00, 0x05, 0x08, 0x01, 0x03]) := by
  decide +kernel

theorem test_decode_setWings :
    cmd (0b11000000101100101 + 0x1A5999 * 2 ^ 17)
      = .ok (.setWings ⟨.ring, 1, 48, ColourRegs.ofList [⟨0x1A, 0x59, 0x99⟩]⟩) := by
  decide +kernel

theorem test_decode_setSuperFixed :
    cmd (0b11011101001101010 + 0x1B5A9A * 2 ^ 17)
      = .ok (.setSuperFixed ⟨.logo, 2, 55, ColourRegs.ofList [⟨0x1B, 0x5A, 0x9A⟩]⟩) := by
  decide +kernel

theorem test_decode_setSuperBreathing :
    cmd (0b11111001101101111 + 0x1C5B9B * 2 ^ 17)
      = .ok (.setSuperBreathing ⟨.sync, 3, 62, ColourRegs.ofList [⟨0x1C, 0x5B, 0x9B⟩]⟩) := by
  decide +kernel

theorem test_decode_setBackwardSpectrumWave :
    cmd (0b00010110001110000 + 0x1D5C9C * 2 ^ 17)
      = .ok (.setBackwardSpectrumWave ⟨.external, 4, 5, ColourRegs.ofList [⟨0x1D, 0x5C, 0x9C⟩]⟩) := by
  decide +kernel

theorem test_run_setBackwardSpectrumWave :
    light (exec (.setBackwardSpectrumWave (ring2 0)) ready)
      = some ([0x2A, 0x04, 0x02, 0x02, 0x5C, 0x42, 0xA4], [0x02, 0x00, 0x08, 0x00, 0x03]) := by
  decide +kernel

theorem test_decode_setBackwardMarquee3 :
    cmd (0b00110010101110101 + 0x1E5D9D * 2 ^ 17)
      = .ok (.setBackwardMarquee3 ⟨.ring, 5, 12, ColourRegs.ofList [⟨0x1E, 0x5D, 0x9D⟩]⟩) := by
  decide +kernel

theorem test_run_setBackwardMarquee3 :
    light (exec (.setBackwardMarquee3 (ring2 1)) ready)
      = some ([0x2A, 0x04, 0x02, 0x02, 0x03, 0x52, 0xA5], [0x06, 0x00, 0x08, 0x01, 0x03]) := by
  decide +kernel

theorem test_decode_setBackwardMarquee4 :
    cmd (0b01001111001111010 + 0x1F5E9E * 2 ^ 17)
      = .ok (.setBackwardMarquee4 ⟨.logo, 6, 19, ColourRegs.ofList [⟨0x1F, 0x5E, 0x9E⟩]⟩) := by
  decide +kernel

theorem test_run_setBackwardMarquee4 :
    light (exec (.setBackwardMarquee4 (ring2 1)) ready)
      = some ([0x2A, 0x04, 0x02, 0x02, 0x03, 0x62, 0xA6], [0x06, 0x00, 0x08, 0x01, 0x04]) := by
  decide +kernel

theorem test_decode_setBackwardMarquee5 :
    cmd (0b01101011101111111 + 0x205F9F * 2 ^ 17)
      = .ok (.setBackwardMarquee5 ⟨.sync, 7, 26, ColourRegs.ofList [⟨0x20, 0x5F, 0x9F⟩]⟩) := by
  decide +kernel

theorem test_run_setBackwardMarquee5 :
    light (exec (.setBackwardMarquee5 (ring2 1)) ready)
      = some ([0x2A, 0x04, 0x02, 0x02, 0x03, 0x72, 0xA7], [0x06, 0x00, 0x08, 0x01, 0x05]) := by
  decide +kernel

theorem test_decode_setBackwardMarquee6 :
    cmd (0b10000100010000000 + 0x2160A0 * 2 ^ 17)
      = .ok (.setBackwardMarquee6 ⟨.external, 0, 33, ColourRegs.ofList [⟨0x21, 0x60, 0xA0⟩]⟩) := by
  decide +kernel

theorem test_run_setBackwardMarquee6 :
    light (exec (.setBackwardMarquee6 (ring2 1)) ready)
      = some ([0x2A, 0x04, 0x02, 0x02, 0x03, 0x82, 0xA8], [0x06, 0x00, 0x08, 0x01, 0x06]) := by
  decide +kernel

theorem test_decode_setBackwardMovingAlternating3 :
    cmd (0b10100000110000101 + 0x2261A1 * 2 ^ 17)
      = .ok (.setBackwardMovingAlternating3 ⟨.ring, 1, 40, ColourRegs.ofList [⟨0x22, 0x61, 0xA1⟩]⟩) := by
  decide +kernel

theorem test_run_setBackwardMovingAlternating3 :
    light (exec (.setBackwardMovingAlternating3 (ring2 1)) ready)
      = some ([0x2A, 0x04, 0x02, 0x02, 0x05, 0x92, 0xA9], [0x03, 0x00, 0x08, 0x01, 0x03]) := by
  decide +kernel

theorem test_decode_setBackwardMovingAlternating4 :
    cmd (0b10111101010001010 + 0x2362A2 * 2 ^ 17)
      = .ok (.setBackwardMovingAlternating4 ⟨.logo, 2, 47, ColourRegs.ofList [⟨0x23, 0x62, 0xA2⟩]⟩) := by
  decide +kernel

theorem test_run_setBackwardMovingAlternating4 :
    light (exec (.setBackwardMovingAlternating4 (ring2 1)) ready)
      = some ([0x2A, 0x04, 0x02, 0x02, 0x05, 0xA2, 0xAA], [0x03, 0x00, 0x08, 0x01, 0x04]) := by
  decide +kernel

theorem test_decode_setBackwardMovingAlternating5 :
    cmd (0b11011001110001111 + 0x2463A3 * 2 ^ 17)
      = .ok (.setBackwardMovingAlternating5 ⟨.sync, 3, 54, ColourRegs.ofList [⟨0x24, 0x63, 0xA3⟩]⟩) := by
  decide +kernel

theorem test_run_setBackwardMovingAlternating5 :
    light (exec (.setBackwardMovingAlternating5 (ring2 1)) ready)
      = some ([0x2A, 0x04, 0x02, 0x02, 0x05, 0xB2, 0xAB], [0x03, 0x00, 0x08, 0x01, 0x05]) := by
  decide +kernel

theorem test_decode_setBackwardMovingAlternating6 :
    cmd (0b11110110010010000 + 0x2564A4 * 2 ^ 17)
      = .ok (.setBackwardMovingAlternating6 ⟨.external, 4, 61, ColourRegs.ofList [⟨0x25, 0x64, 0xA4⟩]⟩) := by
  decide +kernel

theorem test_run_setBackwardMovingAlternating6 :
    light (exec (.setBackwardMovingAlternating6 (ring2 1)) ready)
      = some ([0x2A, 0x04, 0x02, 0x02, 0x05, 0x02, 0xA0], [0x03, 0x00, 0x08, 0x01, 0x06]) := by
  decide +kernel

theorem test_decode_setBackwardRainbowFlow :
    cmd (0b00010010110010101 + 0x2665A5 * 2 ^ 17)
      = .ok (.setBackwardRainbowFlow ⟨.ring, 5, 4, ColourRegs.ofList [⟨0x26, 0x65, 0xA5⟩]⟩) := by
  decide +kernel

theorem test_run_setBackwardRainbowFlow :
    light (exec (.setBackwardRainbowFlow (ring2 0)) ready)
      = some ([0x2A, 0x04, 0x02, 0x02, 0x65, 0x12, 0xA1], [0x02, 0x00, 0x08, 0x00, 0x03]) := by
  decide +kernel

theorem test_decode_setBackwardSuperRainbow :
    cmd (0b00101111010011010 + 0x2766A6 * 2 ^ 17)
      = .ok (.setBackwardSuperRainbow ⟨.logo, 6, 11, ColourRegs.ofList [⟨0x27, 0x66, 0xA6⟩]⟩) := by
  decide +kernel

theorem test_run_setBackwardSuperRainbow :
    light (exec (.setBackwardSuperRainbow (ring2 0)) ready)
      = some ([0x2A, 0x04, 0x02, 0x02, 0x66, 0x22, 0xA2], [0x02, 0x00, 0x08, 0x00, 0x03]) := by
  decide +kernel

theorem test_decode_setBackwardRainbowPulse :
    cmd (0b01001011110011111 + 0x2867A7 * 2 ^ 17)
      = .ok (.setBackwardRainbowPulse ⟨.sync, 7, 18, ColourRegs.ofList [⟨0x28, 0x67, 0xA7⟩]⟩) := by
  decide +kernel

theorem test_run_setBackwardRainbowPulse :
    light (exec (.setBackwardRainbowPulse (ring2 0)) ready)
      = some ([0x2A, 0x04, 0x02, 0x02, 0x67, 0x32, 0xA3], [0x02, 0x00, 0x08, 0x00, 0x03]) := by
  decide +kernel

/-! ### SET on the other paths, and rejected commands (spec/95_test_vectors.md 3.6, 3.7, 3.10) -/

/-- V-P1: `SET ring SuperFixed 2 #0A141E #FF8000`. -/
theorem test_run_setSuperFixed :
    (after (exec (.setSuperFixed ⟨.ring, 2, 2, ColourRegs.ofList [e7, ⟨0xFF, 0x80, 0x00⟩]⟩) ready) fresh).fl
      = [pad64 [0x22, 0x10, 0x02, 0x14, 0x0A, 0x1E, 0x80, 0xFF, 0x00], pad64 [0x22, 0x11, 0x02],
         pad64 [0x22, 0xA0, 0x02, 0x5A, 0x22, 0xA2, 0x08, 0x00, 0x00, 0x80, 0x00, 0x32, 0x00, 0x00, 0x01]] := by
  decide +kernel

/-- V-P2: `SET sync SuperBreathing 4 #010203`. -/
theorem test_run_setSuperBreathing :
    (after (exec (.setSuperBreathing ⟨.sync, 4, 1, ColourRegs.ofList [⟨0x01, 0x02, 0x03⟩]⟩) ready) fresh).fl
      = [pad64 [0x22, 0x10, 0x07, 0x02, 0x01, 0x03], pad64 [0x22, 0x11, 0x07],
         pad64 [0x22, 0xA0, 0x07, 0x5B, 0x34, 0xA3, 0x08, 0x00, 0x00, 0x80, 0x00, 0x32, 0x00, 0x00, 0x01]] := by
  decide +kernel

/-- V-W1: `SET logo Wings 3 #FF6405`, eleven frames. -/
theorem test_run_setWings :
    (after (exec (.setWings ⟨.logo, 3, 1, ColourRegs.ofList [⟨0xFF, 0x64, 0x05⟩]⟩) ready) fresh).fl
      = [pad64 [0x22, 0x10, 0x04], pad64 [0x22, 0x11, 0x04],
         pad64 [0x22, 0x20, 0x04, 0x00, 0xC0, 0x13, 0xA1, 0x01, 0xC4, 0xC5, 0xC6, 0xC7, 0xC8, 0xC9, 0xCA, 0x04, 0x84,
                0x64, 0xFF, 0x05, 0x64, 0xFF, 0x05],
         pad64 [0x22, 0x20, 0x04, 0x01, 0xC0, 0x13, 0xA1, 0x01, 0xC4, 0xC5, 0xC6, 0xC7, 0xC8, 0xC9, 0xCA, 0x04, 0x84,
                0x28, 0x66, 0x02, 0x28, 0x66, 0x02],
         pad64 [0x22, 0x20, 0x04, 0x02, 0xC0, 0x13, 0xA1, 0x01, 0xC4, 0xC5, 0xC6, 0xC7, 0xC8, 0xC9, 0xCA, 0x04, 0x84,
                0x0A, 0x19, 0x00, 0x0A, 0x19, 0x00],
         pad64 [0x22, 0x20, 0x04, 0x03, 0xC0, 0x13, 0xA1, 0x05, 0xC4, 0xC5, 0xC6, 0xC7, 0xC8, 0xC9, 0xCA, 0x04, 0x84],
         pad64 [0x22, 0x20, 0x04, 0x04, 0xC0, 0x13, 0xA1, 0x01, 0xC4, 0xC5, 0xC6, 0xC7, 0xC8, 0xC9, 0xCA, 0x84, 0x04,
                0x64, 0xFF, 0x05, 0x64, 0xFF, 0x05],
         pad64 [0x22, 0x20, 0x04, 0x05, 0xC0, 0x13, 0xA1, 0x01, 0xC4, 0xC5, 0xC6, 0xC7, 0xC8, 0xC9, 0xCA, 0x84, 0x04,
                0x28, 0x66, 0x02, 0x28, 0x66, 0x02],
         pad64 [0x22, 0x20, 0x04, 0x06, 0xC0, 0x13, 0xA1, 0x01, 0xC4, 0xC5, 0xC6, 0xC7, 0xC8, 0xC9, 0xCA, 0x84, 0x04,
                0x0A, 0x19, 0x00, 0x0A, 0x19, 0x00],
         pad64 [0x22, 0x20, 0x04, 0x07, 0xC0, 0x13, 0xA1, 0x05, 0xC4, 0xC5, 0xC6, 0xC7, 0xC8, 0xC9, 0xCA, 0x84, 0x04],
         pad64 [0x22, 0x03, 0x04, 0x08]] := by
  decide +kernel

/-- V-D5: WaterCooler's count byte is 1 although two colours lie in the body. -/
theorem test_body_waterCooler :
    ((after (exec (.setWaterCooler ⟨.external, 4, 2, ColourRegs.ofList [⟨0xFF, 0, 0⟩, ⟨0, 0, 0xFF⟩]⟩) ready) fresh).fl.map
      fun F => (F.slice 0 16, F.slice 48 16))
      = [([0x2A, 0x04, 0x01, 0x01, 0x58, 0x04, 0xA0, 0x00, 0xFF, 0x00, 0x00, 0x00, 0xFF, 0x00, 0x00, 0x00],
          [0x00, 0x00, 0x00, 0x00, 0x00, 0x00, 0x00, 0x00, 0x05, 0x28, 0x01, 0x03, 0x00, 0x00, 0x00, 0x00])] := by
  decide +kernel

/-- V-D1, the whole frame. -/
theorem test_frame_fixed :
    (after (exec (.setFixed (ring2 1)) ready) fresh).fl
      = [pad64 ([0x2A, 0x04, 0x02, 0x02, 0x40, 0x02, 0xA0, 0x14, 0x0A, 0x1E] ++ zeros 45 ++ [0x00, 0x00, 0x08, 0x01, 0x03])] := by
  decide +kernel

/-- The numbers on the error port after commands of 3.10 (R219). -/
def errAfter (w : Nat) : Nat :=
  match step { ready with port := [.cmd (CmdWord.ofNat w)] } with
  | .next t => if t.busy ∨ t.txlog ≠ ready.txlog then 99 else t.err.code
  | _ => 98

/-- V-X1 to V-X4: Fixed without a colour, with two; SpectrumWave with one; WaterCooler with one. -/
theorem test_errors_count :
    [errAfter 0x201, errAfter 0b00001001000000001, errAfter 0b00000101000001001, errAfter 0b00000110001100000] = [1, 3, 2, 1] := by
  decide +kernel

/-- V-X5 to V-X9: Fading with 17; effect codes 40 and 63; Fixed with speed codes 5 and 7. -/
theorem test_errors_codes :
    [errAfter 0b01000101000000101, errAfter 0b00000101010100001, errAfter 0b00000011111111101, errAfter 0b00000110100000001,
     errAfter 0b00000011100000001] = [3, 4, 4, 5, 1] := by
  decide +kernel

/-- V-X10 to V-X12: SuperFixed with 21 colours; the same with speed code 6; with 41. -/
theorem test_errors_dense :
    [errAfter 0b01010100001101000, errAfter 0b01010111001101000, errAfter 0b10100100001101011] = [6, 5, 3] := by
  decide +kernel

/-! ### Frame kinds: decoding (R76 to R86) and effect -/

/-- V-D1 as a LIGHT frame, and its fields. -/
def lightV : LightFields :=
  ⟨.ring, 0x40, 0x02, 0xA0, e7 :: List.replicate 15 ⟨0, 0, 0⟩, 0x00, 0x00, 0x08, 0x01, 0x03⟩

def palcV : PalcFields := ⟨.sync, ⟨0x01, 0x02, 0x03⟩ :: List.replicate 19 ⟨0, 0, 0⟩, 0⟩

def paltV : PaltFields := ⟨.sync, 0x5B, 0x34, 0xA3⟩

def zoneV : ZoneFields :=
  ⟨.logo, 7, [0xC0, 0x13, 0xA1, 0x05, 0xC4, 0xC5, 0xC6, 0xC7, 0xC8, 0xC9, 0xCA, 0x84, 0x04], [0, 0, 0, 0, 0, 0]⟩

/-- V-D1. -/
theorem test_decode_light :
    decode (.sent (pad64 ([0x2A, 0x04, 0x02, 0x02, 0x40, 0x02, 0xA0, 0x14, 0x0A, 0x1E] ++ zeros 45 ++ [0x00, 0x00, 0x08, 0x01, 0x03])))
      = .ok (.light lightV) := by
  decide +kernel

/-- V-P2, frame 1. -/
theorem test_decode_palc : decode (.sent (pad64 [0x22, 0x10, 0x07, 0x02, 0x01, 0x03])) = .ok (.palc palcV) := by decide +kernel

/-- V-P2, frame 2. -/
theorem test_decode_palx : decode (.sent (pad64 [0x22, 0x11, 0x07])) = .ok (.palx .sync) := by decide +kernel

/-- V-P2, frame 3. -/
theorem test_decode_palt :
    decode (.sent (pad64 [0x22, 0xA0, 0x07, 0x5B, 0x34, 0xA3, 0x08, 0x00, 0x00, 0x80, 0x00, 0x32, 0x00, 0x00, 0x01]))
      = .ok (.palt paltV) := by
  decide +kernel

/-- V-W1, frame 10. -/
theorem test_decode_zone :
    decode (.sent (pad64 [0x22, 0x20, 0x04, 0x07, 0xC0, 0x13, 0xA1, 0x05, 0xC4, 0xC5, 0xC6, 0xC7, 0xC8, 0xC9, 0xCA, 0x84, 0x04]))
      = .ok (.zone zoneV) := by
  decide +kernel

/-- V-W1, frame 11. -/
theorem test_decode_zen : decode (.sent (pad64 [0x22, 0x03, 0x04, 0x08])) = .ok (.zen .logo) := by decide +kernel

/-- The requests of CFG-T, by their place (R83, R196). -/
theorem test_decode_requests :
    decode (.request 0 (pad64 [0x10, 0xE1])) = .ok (.fwreq (pad64 [0x10, 0xE1])) ∧
    decode (.request 1 (pad64 [0x20, 0xE2])) = .ok (.ltreq (pad64 [0x20, 0xE2])) ∧
    decode (.request 2 (pad64 [0x70, 0xE3, 0x55])) = .ok (.setint (pad64 [0x70, 0xE3, 0x55])) ∧
    decode (.request 3 (pad64 [0x70, 0xE4])) = .ok (.ltconf (pad64 [0x70, 0xE4])) := by
  decide +kernel

/-- `FW` of 3.9: version 2, 5, 9. -/
def fwFrame : Frame := pad64 ([0x11, 0x01] ++ zeros 28 ++ [0x02, 0x00, 0x05, 0x00, 0x00, 0x09])

/-- `LT` of 3.9. -/
def ltFrame : Frame := pad64 [0x21, 0x03]

/-- `X` of 3.9, a status frame by its first bytes. -/
def otherFrame : Frame := pad64 [0x75, 0x02]

theorem test_decode_handshake :
    decode (.handshake fwFrame) = .ok (.fwinfo fwFrame) ∧ decode (.handshake ltFrame) = .ok (.ltinfo ltFrame) ∧
    decode (.handshake otherFrame) = .error .handshakeTag ∧ decode (.telemetry ltFrame) = .ok (.status ltFrame) := by
  decide +kernel

/-- INIT, POLL and EMIT have no bits (R93). -/
theorem test_decode_operations :
    decode (.port .init) = .ok .init ∧ decode (.port .poll) = .ok .poll ∧ decode .emit = .ok .emit := by
  decide +kernel

/-- Table words: a command word whose upper bits are absent; the tag of a frame row; and a frame row whose channel id byte is
absent, which no rule accepts (R71). -/
theorem test_table_words :
    decodeTableWord 24 0b00000101000000001 = some (.setFixed ⟨.ring, 2, 1, ColourRegs.ofList []⟩) ∧
    decodeTableWord 16 0x0111 = some (.fwinfo (pad64 [0x11, 0x01])) ∧
    decodeTableWord 32 0x08070322 = some (.zen .sync) ∧ decodeTableWord 16 0x042A = none := by
  decide +kernel

/-- The frame kinds a burst sends, each as the whole of `FL`: it is in `TXLOG`, and the lock is released. -/
def sends (i : Instr) (F : Frame) : Bool :=
  let s := { ready with busy := true, fl := [F], txAns := [.ok] }
  let t := after (exec i s) s
  t.txlog = s.txlog ++ [F] && !t.busy && t.fi = 1 && (List.range 64).all fun k => memRead t.txf k = F.get k

theorem test_run_frames :
    sends (.light lightV) (encodeLight lightV) && sends (.palc palcV) (encodePalc palcV) && sends (.palx .sync) (encodePalx .sync)
      && sends (.palt paltV) (encodePalt paltV) && sends (.zone zoneV) (encodeZone zoneV)
      && sends (.zen .logo) (encodeZen .logo) = true := by
  decide +kernel

/-- A burst's frame that is not the next one is not sent. -/
theorem test_frame_out_of_turn : sends (.palx .ring) (encodePalx .sync) = false := by decide +kernel

/-! ### What the decoder and the well-formedness checks refuse -/

/-- Every check refuses an ill-formed term. -/
theorem test_illFormed :
    [Instr.light { lightV with slots := lightV.slots.tail }, .palc { palcV with slots := e7 :: palcV.slots },
     .zone { zoneV with template := zoneV.template.tail }, .zone { zoneV with group := [] }, .fwreq (pad64 [0x20]),
     .ltreq (pad64 [0x10]), .setint (pad64 [0x71]), .fwinfo (pad64 [0x11, 0x02]), .fwinfo ltFrame,
     .ltinfo (pad64 [0x22, 0x03]), .ltinfo fwFrame].map Instr.wellFormed = List.replicate 11 false := by
  decide +kernel

/-- Each reason to reject, by name (R71, R76, R80 to R82, R88, R89, R101). -/
theorem test_rejects :
    cmd (0b00000100010100000) = .error (.unknownEffect 40 ⟨.external, 0, 1, ColourRegs.ofList []⟩) ∧
    decode (.sent (pad64 [0x22, 0x12, 0x07])) = .error .frameOpcode ∧
    decode (.sent (pad64 [0x22, 0x11, 0x03])) = .error .channelId ∧
    decode (.sent (pad64 [0x2A, 0x04, 0x01, 0x02])) = .error .channelIdPair ∧
    decode (.sent (pad64 [0x22, 0x11, 0x07, 0x01])) = .error .padding ∧
    decode (.sent (pad64 [0x22, 0x03, 0x04, 0x09])) = .error .constant ∧
    decode (.sent (pad64 [0x22, 0x20, 0x04, 0x08])) = .error .zoneIndex := by
  decide +kernel

/-- CFG-T with one field of a row changed. -/
def badRow (e : Effect) (f : CatalogRow → CatalogRow) : RawCfg :=
  { rawCfgT with catalog := rawCfgT.catalog.modify e.info.code f }

/-- Each check of R6 and R7 refuses a configuration that breaks it, by its name. -/
theorem test_config_checks :
    RawCfg.failed { rawCfgT with catalog := rawCfgT.catalog.tail } = some .k1 ∧
    (badRow .candle fun m => { m with speedClass := 12 }).failed = some .k2 ∧
    (badRow .pulse fun m => { m with minColors := 9 }).failed = some .k3 ∧
    (badRow .fixed fun m => { m with maxColors := 2 }).failed = some .k4 ∧
    (badRow .spectrumWave fun m => { m with maxColors := 1 }).failed = some .k5 ∧
    (badRow .marquee5 fun m => { m with variant := 6 }).failed = some .k6 ∧
    (badRow .waterCooler fun m => { m with minColors := 3, maxColors := 3 }).failed = some .k7 ∧
    (badRow .fading fun m => { m with maxColors := 17 }).failed = some .k8 ∧
    (badRow .wings fun m => { m with minColors := 0 }).failed = some .k8 := by
  decide +kernel

/-- A Wings row that takes no colour is refused (decision D8); any other `maxColors` is not (R8), and then a count of 40 is accepted and
one of 41 or 63 is `TooMany` (R88). -/
theorem test_config_wings_maxColors :
    (badRow .wings fun m => { m with maxColors := 0 }).failed = some .wingsColour ∧
    ∀ x ∈ [(40 : Byte), 41, 255],
      let c := badRow .wings fun m => { m with maxColors := x }
      c.wf = true ∧
      (build c .ring Effect.wings.code 40 (ring2 40).col 3).toOption.map List.length = some 11 ∧
      ∀ n ∈ [41, 63], build c .ring Effect.wings.code n (ring2 1).col 3 = .error (.invalidColorCount .tooMany n 1 x.toNat) := by
  decide +kernel

/-- V-W3 and R88: Wings without a colour is `TooFew`, and a count of 63 is `TooMany`, with the bounds of CFG-T. -/
theorem test_wings_counts :
    build rawCfgT .logo Effect.wings.code 0 (ring2 1).col 3 = .error (.invalidColorCount .tooFew 0 1 1) ∧
    build rawCfgT .logo Effect.wings.code 63 (ring2 1).col 3 = .error (.invalidColorCount .tooMany 63 1 1) := by
  decide +kernel

theorem test_config_fields :
    RawCfg.failed { rawCfgT with timing := rawCfgT.timing.tail } = some .timingTotal ∧
    RawCfg.failed { rawCfgT with footerOrder := [.dir, .dir, .static, .count, .size] } = some .footerPermutation ∧
    RawCfg.failed { rawCfgT with wtMod := 11 } = some .templateShape ∧
    RawCfg.failed { rawCfgT with stDuty := 21 } = some .statusOffsets ∧
    RawCfg.failed { rawCfgT with setInt := pad64 [0x71] } = some .requestOpcodes ∧
    RawCfg.failed { rawCfgT with fwv2 := 64 } = some .versionOffsets ∧
    RawCfg.failed { rawCfgT with hsMaxReads := 1 } = some .readCeiling := by
  decide +kernel

/-! ### INIT, POLL, EMIT (spec/95_test_vectors.md 3.8, 3.9, 3.11) -/

/-- The flags, `ERR`, `HSCNT`, `FWVER` and `TXLOG` after INIT with the given answers to its reads; every write succeeds. -/
def afterInit (reads : List ReadAnswer) : State :=
  after (exec .init { fresh with txAns := List.replicate 4 .ok, rxArr := reads }) fresh

def flags (s : State) : List Bool := [s.fwack, s.ltack, s.init, s.hsfail, s.busy]

/-- H1, H2, H4, H7. -/
theorem test_init_succeeds :
    ([[.frame fwFrame, .frame ltFrame], [.frame ltFrame, .frame fwFrame],
      [.frame otherFrame, .frame fwFrame, .timeout, .frame ltFrame],
      [.frame fwFrame, .frame (pad64 ([0x11, 0x01] ++ zeros 28 ++ [0x03, 0, 0, 0, 0, 0x01])), .frame ltFrame]].map fun r =>
        let t := afterInit r
        (flags t, t.err.code, t.hscnt, t.fwver, decide (t.txlog = requests rawCfgT)))
      = [([true, true, true, false, false], 0, 2, ⟨2, 5, 9⟩, true), ([true, true, true, false, false], 0, 2, ⟨2, 5, 9⟩, true),
         ([true, true, true, false, false], 0, 4, ⟨2, 5, 9⟩, true), ([true, true, true, false, false], 0, 3, ⟨3, 0, 1⟩, true)] := by
  decide +kernel

/-- H3, H5, H6. -/
theorem test_init_fails :
    ([[.frame fwFrame, .frame otherFrame, .frame otherFrame, .frame otherFrame], List.replicate 4 .timeout,
      [.frame fwFrame, .transportError]].map fun r => let t := afterInit r; (flags t, t.err.code, t.hscnt))
      = [([true, false, false, true, false], 9, 4), ([false, false, false, true, false], 9, 4),
         ([true, false, false, true, false], 7, 2)] := by
  decide +kernel

/-- The record POLL decodes from a frame. -/
def polled (F : Frame) : Nat × Nat × Nat :=
  let t := after (exec .poll { ready with rxArr := [.frame F] }) ready
  (t.status.temp10, t.status.rpm.toNat, t.status.duty.toNat)

/-- V-S1 to V-S7. -/
theorem test_poll_frames :
    [polled (pad64 []), polled (pad64 (List.replicate 64 0xFF)), polled (pad64 (zeros 20 ++ [0x1F, 0x04, 0x2C, 0x01, 0x3C])),
     polled (pad64 (List.replicate 20 0xEE ++ [0x1F, 0x04, 0x2C, 0x01, 0x3C] ++ List.replicate 39 0xEE)),
     polled (pad64 (zeros 20 ++ [0x19, 0x0F])), polled (pad64 (zeros 22 ++ [0x01, 0x2C])), polled (pad64 (zeros 24 ++ [0xC8]))]
      = [(0, 0, 0), (2805, 65535, 255), (314, 300, 60), (314, 300, 60), (265, 0, 0), (0, 11265, 0), (0, 0, 200)] := by
  decide +kernel

/-- A read that brings no frame leaves `STATUS`. -/
theorem test_poll_without_frame :
    ([ReadAnswer.timeout, .transportError].map fun r =>
      let t := after (exec .poll { ready with rxArr := [r], status := ⟨314, 300, 60⟩ }) ready
      (t.err.code, t.status)) = [(8, ⟨314, 300, 60⟩), (7, ⟨314, 300, 60⟩)] := by
  decide +kernel

/-- V-P1's burst, issued. -/
def burstP1 : State :=
  after (exec (.setSuperFixed ⟨.ring, 2, 2, ColourRegs.ofList [e7, ⟨0xFF, 0x80, 0x00⟩]⟩) ready) ready

/-- R197: `FWVER` is rewritten from the later frame. -/
theorem test_init_version_rewritten :
    let later := pad64 ([0x11, 0x01] ++ List.replicate 28 0 ++ [7, 0, 8, 0, 0, 9])
    (afterInit [.frame fwFrame, .frame later, .frame ltFrame]).fwver = ⟨7, 8, 9⟩ ∧
    (afterInit [.frame later, .frame otherFrame, .timeout, .frame otherFrame]).fwver = ⟨7, 8, 9⟩ ∧
    flags (afterInit [.frame later, .frame otherFrame, .timeout, .frame otherFrame]) = [true, false, false, true, false] := by
  decide +kernel

/-- V-Q1 and V-Q2: the last frame of a burst releases the lock; a failed write abandons the burst. -/
theorem test_emit :
    (let t := after (exec .emit { burstP1 with txAns := [.ok], fi := 2 }) ready
     (t.busy, t.fi, t.err.code, t.txlog.length) = (false, 3, 0, 5)) ∧
    (let t := after (exec .emit { burstP1 with txAns := [.transportError], fi := 1 }) ready
     (t.busy, t.fi, t.err.code, t.txlog.length, t.devHavoc) = (false, 1, 7, 4, true)) := by
  decide +kernel

/-- A request that is not enabled waits while a later one is served: POLL waits for INIT. -/
theorem test_held_request :
    (after (step { fresh with txAns := List.replicate 4 .ok, rxArr := [.frame fwFrame, .frame ltFrame], port := [.poll, .init] })
      fresh).port = [.poll] := by
  decide +kernel

/-! ### The notation of R91 -/

/-- The number of the command word a line assembles to. -/
def wordOf (line : String) : Option Nat :=
  match assemble line with
  | some (.cmd w) => some w.toNat
  | _ => none

/-- V-C1 to V-C4, and what is no operation. -/
theorem test_assemble :
    wordOf "SET ring Fixed 2 #0A141E   ; a comment" = some 0x14283C0A01 ∧
    wordOf "SET sync SuperFixed 0 #010203 #040506 #070809" = some 0xE1012080A0C020406186B ∧
    wordOf "SET logo Wings 3 #ff6405" = some 0x1FEC80A0B66 ∧ wordOf "SET external WaterCooler 4 #FF0000 #0000FF" = some 0x1FFFE00001460 ∧
    assemble "INIT" = some .init ∧ assemble "  POLL" = some .poll ∧ assemble "SET ring Fixed 5" = none ∧
    assemble "SET ring Off 2" = none := by
  decide +kernel

/-- The next step runs the instruction of a table word: V-C1, PALX on ring as a whole frame, the tag of FWINFO. -/
theorem test_fetch_word :
    light (step (fresh.withFetchWord 64 0x14283C0A01))
      = some ([0x2A, 0x04, 0x02, 0x02, 0x40, 0x02, 0xA0], [0x00, 0x00, 0x08, 0x01, 0x03]) ∧
    (after (step { fresh.withFetchWord 512 0x021122 with txAns := [.ok] }) fresh).txlog = [pad64 [0x22, 0x11, 0x02]] ∧
    (after (step (fresh.withFetchWord 16 0x0111)) fresh).fwack = true := by
  decide +kernel

/-! ### Witnesses: for each statement with hypotheses, concrete values that meet them, at the boundaries of its clauses -/

/-- CFG-T with `DENSE_OVERFLOW = truncate`. -/
def rawCfgTrunc : RawCfg := { rawCfgT with denseOverflow := .truncate }

theorem rawCfgTrunc_wf : rawCfgTrunc.wf = true := by decide +kernel

def cfgTrunc : Cfg := ⟨rawCfgTrunc, rawCfgTrunc_wf⟩

/-- Colour registers with forty different colours. -/
def manyColours : ColourRegs := ColourRegs.ofList ((List.range 40).map fun i => ⟨BitVec.ofNat 8 i, 0x80, 0x40⟩)

theorem test_witness_DecodeEncodeRoundTrip :
    ∀ i ∈ [Instr.setFixed (ring2 1), .light lightV, .palc palcV, .palx .ring, .palt paltV, .zone zoneV, .zen .logo,
      .fwreq (pad64 [0x10]), .ltreq (pad64 [0x20]), .setint (pad64 [0x70]), .ltconf (pad64 []), .fwinfo fwFrame,
      .ltinfo ltFrame, .status otherFrame, .init, .poll, .emit], i.wellFormed = true := by
  decide +kernel

/-- V-C8 and the largest colour count and speed code. -/
theorem test_witness_CommandWordsRoundTrip :
    cmd 0x9F = .ok (.setBackwardRainbowPulse ⟨.sync, 0, 0, ColourRegs.ofList []⟩) ∧
    cmd 0b11111111100000000 = .ok (.setFixed ⟨.external, 7, 63, ColourRegs.ofList []⟩) := by
  decide +kernel

theorem test_witness_SentFramesRoundTrip : decode (.sent (encodePalt paltV)) = .ok (.palt paltV) := by decide +kernel

theorem test_witness_CommandWordFields : 2 ^ 977 - 1 < 2 ^ 977 ∧ 39 < 40 := by decide +kernel

theorem test_witness_EffectCodesSelectTheInstruction :
    (cmdCode (CmdWord.ofNat (39 * 4))).toNat < 40 ∧ 40 ≤ (cmdCode (CmdWord.ofNat (40 * 4))).toNat ∧
    40 ≤ (cmdCode (CmdWord.ofNat (63 * 4))).toNat := by
  decide +kernel

/-- Both sides of the equivalence hold at twenty dense colours, and fail at twenty-one. -/
theorem test_witness_BuildAcceptsExactlyTheValidCommands :
    (build rawCfgT .sync Effect.superFixed.code 20 manyColours 4).toOption.isSome = true ∧
    (build rawCfgT .sync Effect.superFixed.code 21 manyColours 4).toOption.isSome = false ∧
    (build rawCfgTrunc .sync Effect.superFixed.code 40 manyColours 4).toOption.isSome = true ∧
    (let c := badRow .wings fun m => { m with maxColors := 41 }
     c.wf = true ∧ ∀ n ∈ [1, 40], (build c .sync Effect.wings.code n manyColours 4).toOption.isSome = true) := by
  decide +kernel

/-- The clauses of R88 and R178: 41 and 63 colours, at the least and the greatest `maxColors` that admits any; no colour for Wings;
and, with a row that admits 41, a bad level at 40 colours, and TooFew at 40 below a `minColors` of 41. -/
theorem test_witness_BuildReportsTheFirstError_counts :
    (Effect.ofCode Effect.wings.code = some .wings ∧ Effect.wings.info.path = .wings ∧ 40 < 41 ∧ 40 < 63 ∧ 4 < (5 : BitVec 3).toNat) ∧
    (∀ x ∈ [(1 : Byte), 255],
      (badRow .wings fun m => { m with maxColors := x }).wf = true ∧
      (badRow .wings fun m => { m with maxColors := x }).row .wings = some { cfgTRow .wings with maxColors := x } ∧ x ≠ 0) ∧
    CountOk { cfgTRow .wings with maxColors := 41 } 40 ∧
    (badRow .wings fun m => { m with minColors := 41, maxColors := 41 }).wf = true ∧ 40 < (41 : Byte).toNat := by
  decide +kernel

theorem test_witness_BuildReportsTheFirstError :
    Effect.ofCode 40 = none ∧ Effect.ofCode 63 = none ∧
    (Effect.ofCode Effect.spectrumWave.code = some .spectrumWave ∧
      rawCfgT.row .spectrumWave = some (cfgTRow .spectrumWave) ∧ (cfgTRow .spectrumWave).maxColors = 0 ∧ 0 < 1) ∧
    (Effect.ofCode Effect.fixed.code = some .fixed ∧ rawCfgT.row .fixed = some (cfgTRow .fixed) ∧
      (cfgTRow .fixed).maxColors ≠ 0 ∧ 0 < (cfgTRow .fixed).minColors.toNat ∧ (cfgTRow .fixed).maxColors.toNat < 2 ∧
      CountOk (cfgTRow .fixed) 1 ∧ 1 ≤ 40 ∧ 0 ≤ 40 ∧ 4 < (5 : BitVec 3).toNat) ∧
    (Effect.ofCode Effect.superFixed.code = some .superFixed ∧ rawCfgT.row .superFixed = some (cfgTRow .superFixed) ∧
      CountOk (cfgTRow .superFixed) 21 ∧ (4 : BitVec 3).toNat ≤ 4 ∧ Effect.superFixed.info.path = .dense ∧ 20 < 21 ∧
      rawCfgT.denseOverflow = .fault) := by
  decide +kernel

theorem test_witness_UnusedColoursAreIgnored :
    (ColourRegs.ofList [e7, e7]).list.take 1 = (ColourRegs.ofList [e7]).list.take 1 ∧
    ColourRegs.ofList [e7, e7] ≠ ColourRegs.ofList [e7] := by
  decide +kernel

/-- Sixteen colours and none; the last slot, the first byte past an empty body, the last footer byte. -/
theorem test_witness_LightFrameLayout :
    ((manyColours.list.take 16).length = 16 ∧ 16 ≤ 16 ∧ (manyColours.list.take 16)[15]? = some ⟨15, 0x80, 0x40⟩) ∧
    (([] : List Colour).length = 0 ∧ 0 ≤ 16 ∧ 7 + 3 * 0 ≤ 7 ∧ 7 < 55) ∧ rawCfgT.footerOrder[4]? = some .size := by
  decide +kernel

theorem test_witness_LightStaticCountSizeBytes : ∀ n ∈ [0, 16], n ≤ 16 := by decide

theorem test_witness_LengthFamilySizeIsGroupLength :
    cfgT.raw.row .marquee3 = some (cfgTRow .marquee3) ∧ Effect.marquee3.info.len = some 3 ∧
    cfgT.raw.row .backwardMovingAlternating6 = some (cfgTRow .backwardMovingAlternating6) ∧
    Effect.backwardMovingAlternating6.info.len = some 6 := by
  decide +kernel

theorem test_witness_DenseFramesLayout :
    (manyColours.list.take 20).length ≤ 20 ∧ (manyColours.list.take 20)[19]? = some ⟨19, 0x80, 0x40⟩ ∧
    ([] : List Colour).length ≤ 20 := by
  decide +kernel

/-- Twenty-one colours and forty, under both settings. -/
theorem test_witness_DenseOverflow :
    ∀ c ∈ [cfgT, cfgTrunc], ∀ n ∈ [21, 40],
      Effect.superBreathing.info.path = .dense ∧ c.raw.row .superBreathing = some (cfgTRow .superBreathing) ∧
      CountOk (cfgTRow .superBreathing) n ∧ (4 : BitVec 3).toNat ≤ 4 ∧
      c.raw.timingOf (cfgTRow .superBreathing).speedClass 4 = some (0x34, 0xA3) ∧ 20 < n := by
  decide +kernel

theorem test_witness_DenseOverflow_settings :
    cfgT.raw.denseOverflow = .fault ∧ cfgTrunc.raw.denseOverflow = .truncate ∧ manyColours.list[20]? = some ⟨20, 0x80, 0x40⟩ := by
  decide +kernel

theorem test_witness_WingsTemplate :
    wt cfgT.raw 0x13 0xA1 5 0x84 0x04
      = [0xC0, 0x13, 0xA1, 0x05, 0xC4, 0xC5, 0xC6, 0xC7, 0xC8, 0xC9, 0xCA, 0x84, 0x04] ∧
    0 < 13 ∧ 0 ∉ [cfgT.raw.wtTlo, cfgT.raw.wtThi, cfgT.raw.wtMod, cfgT.raw.wtD0, cfgT.raw.wtD1] := by
  decide +kernel

theorem test_witness_BurstsAreTheTableFrameKinds :
    ∀ e ∈ [Effect.fixed, .superFixed, .wings],
      build cfgT.raw .ring e.code 1 manyColours 0
        = .ok (pathFrames cfgT.raw .ring e (cfgTRow e) 1 manyColours (BitVec.ofNat 8 (0x10 * (cfgTRow e).speedClass),
            BitVec.ofNat 8 (0xA0 + (cfgTRow e).speedClass))) := by
  decide +kernel

/-- The least and the most colours of a default-path effect, the lowest and the highest speed level. -/
theorem test_witness_SetDefaultPathCompletes :
    ready.ready = true ∧
    ∀ p ∈ [(Effect.fixed, (1 : BitVec 6), (0 : BitVec 3)), (.fading, 16, 4), (.spectrumWave, 0, 4), (.waterCooler, 2, 0)],
      p.1.info.path = .default ∧ ready.cfg.raw.row p.1 = some (cfgTRow p.1) ∧ CountOk (cfgTRow p.1) p.2.1.toNat ∧
      p.2.2.toNat ≤ 4 ∧
      ready.cfg.raw.timingOf (cfgTRow p.1).speedClass p.2.2.toNat
        = some (BitVec.ofNat 8 (0x10 * (cfgTRow p.1).speedClass + p.2.2.toNat),
            BitVec.ofNat 8 (0xA0 + (cfgTRow p.1).speedClass)) := by
  decide +kernel

/-- Twenty colours, and forty where they are to be truncated. -/
theorem test_witness_SetDensePathCompletes :
    ∀ p ∈ [(cfgT, (20 : BitVec 6)), (cfgTrunc, 40)],
      Effect.superFixed.info.path = .dense ∧ ({ ready with cfg := p.1 } : State).ready = true ∧
      p.1.raw.row .superFixed = some (cfgTRow .superFixed) ∧ CountOk (cfgTRow .superFixed) p.2.toNat ∧
      (4 : BitVec 3).toNat ≤ 4 ∧ (p.2.toNat ≤ 20 ∨ p.1.raw.denseOverflow = .truncate) ∧
      p.1.raw.timingOf (cfgTRow .superFixed).speedClass 4 = some (0x24, 0xA2) := by
  decide +kernel

/-- One colour; and forty, with a Wings row that admits more. -/
theorem test_witness_SetWingsCompletes :
    ready.ready = true ∧ ready.cfg.raw.row .wings = some (cfgTRow .wings) ∧
    (1 : BitVec 6).toNat ≤ 40 ∧ CountOk (cfgTRow .wings) (1 : BitVec 6).toNat ∧
    (3 : BitVec 3).toNat ≤ 4 ∧ ready.cfg.raw.timingOf (cfgTRow .wings).speedClass 3 = some (0x13, 0xA1) ∧
    (ring2 1).col.list[0]? = some e7 ∧
    (let m : CatalogRow := { cfgTRow .wings with maxColors := 41 }
     (badRow .wings fun m => { m with maxColors := 41 }).wf = true ∧
      (badRow .wings fun m => { m with maxColors := 41 }).row .wings = some m ∧ (40 : BitVec 6).toNat ≤ 40 ∧ CountOk m (40 : BitVec 6).toNat) := by
  decide +kernel

theorem test_witness_SetRejectedSendsNothing :
    ready.ready = true ∧
    build ready.cfg.raw .ring Effect.fixed.code 0 manyColours 2 = .error (.invalidColorCount .tooFew 0 1 1) ∧
    build ready.cfg.raw .ring Effect.fixed.code 1 manyColours 5 = .error (.invalidSpeedIndex 0 5) ∧
    build ready.cfg.raw .ring Effect.superFixed.code 21 manyColours 4 = .error (.frameOverflow .dense 21) := by
  decide +kernel

/-- Effect codes 40 and 63, behind an INIT that is held. -/
theorem test_witness_ReservedEffectCodeRaisesUnknownEffect :
    ∀ c ∈ [40, 63],
      let s : State := { ready with port := [.init, .cmd (CmdWord.ofNat (4 * c)), .poll] }
      s.ready = true ∧ s.port = [.init] ++ .cmd (CmdWord.ofNat (4 * c)) :: [.poll] ∧ (∀ p ∈ [PortWord.init], s.enabled p = false) ∧
      40 ≤ (cmdCode (CmdWord.ofNat (4 * c))).toNat := by
  decide +kernel

/-- The read loop about to make its first read, and its last under CFG-T. -/
def reading (k : Nat) : State := { fresh with hsSent := 4, hscnt := k, txlog := requests rawCfgT, txN := 4, devRx := requests rawCfgT }

/-- One state per clause: not ready; INIT not enabled; no burst; another frame's turn; request out of its turn, in its three
ways; the read loop not reading. -/
theorem test_witness_NotEnabledChangesNothing :
    fresh.ready = false ∧ ready.initEnabled = false ∧ ready.busy = false ∧
    (encode (.palx .sync) = .sent (encodePalx .sync) ∧ burstP1.currentFrame ≠ some (encodePalx .sync)) ∧
    (encode (.ltreq (pad64 [0x20])) = .request 1 (pad64 [0x20]) ∧ ready.uninit = false ∧
      fresh.hsSent ≠ (1 : BitVec 2).toNat ∧ pad64 [0x20] ≠ hsReq fresh.cfg.raw (1 : BitVec 2).toNat) ∧
    (fresh.hsReading = false ∧ (reading 4).hsReading = false ∧ encode (.fwinfo fwFrame) = .handshake fwFrame) := by
  decide +kernel

/-- V-P1's burst at its first frame and at its last. -/
theorem test_witness_EmitSendsTheCurrentFrame :
    ∀ k ∈ [0, 2],
      ({ burstP1 with fi := k, txAns := [.ok] } : State).busy = true ∧ (burstP1.fl[k]?).isSome = true ∧
      ({ burstP1 with fi := k, txAns := [.ok] } : State).writeAnswer = .ok := by
  decide +kernel

theorem test_witness_EmitFailureAbandonsTheBurst :
    ∀ k ∈ [0, 2],
      ({ burstP1 with fi := k, txAns := [.transportError] } : State).busy = true ∧ (burstP1.fl[k]?).isSome = true ∧
      ({ burstP1 with fi := k, txAns := [.transportError] } : State).writeAnswer = .transportError := by
  decide +kernel

theorem test_witness_EmitWithoutAFrameOrAnAnswer :
    ({ burstP1 with fi := 3 } : State).busy = true ∧ ({ burstP1 with fi := 3 } : State).fl[3]? = none ∧
    burstP1.busy = true ∧ (burstP1.fl[burstP1.fi]?).isSome = true ∧
    ({ burstP1 with txAns := [.never] } : State).writeAnswer = .never := by
  decide +kernel

theorem test_witness_BurstFrameKindsAreSent :
    ∀ p ∈ [(Instr.light lightV, encodeLight lightV), (.palc palcV, encodePalc palcV), (.palx .sync, encodePalx .sync),
        (.palt paltV, encodePalt paltV), (.zone zoneV, encodeZone zoneV), (.zen .logo, encodeZen .logo)],
      encode p.1 = .sent p.2 ∧
      ∀ a ∈ [WriteAnswer.ok, .transportError, .never],
        let s : State := { ready with busy := true, fl := [p.2], txAns := [a] }
        s.currentFrame = some p.2 ∧ s.writeAnswer = a := by
  decide +kernel

/-- Three frames left, and one. -/
theorem test_witness_BurstSendsItsFramesInOrder :
    ∀ k ∈ [0, 2],
      ({ burstP1 with fi := k, txAns := [.ok, .ok, .ok] } : State).busy = true ∧ burstP1.fl.drop k ≠ [] ∧
      ∀ j < (burstP1.fl.drop k).length, ({ burstP1 with fi := k, txAns := [.ok, .ok, .ok] } : State).nthWrite j = .ok := by
  decide +kernel

/-- A frame of the receive queue, and one of the script. -/
theorem test_witness_PollDecodesTheFrame :
    ready.ready = true ∧ Memory.wf ready.rxf = true ∧ ({ ready with rxBuf := [otherFrame] } : State).nthRead 0 = .frame otherFrame ∧
    ({ ready with rxArr := [.frame otherFrame] } : State).nthRead 0 = .frame otherFrame := by
  decide +kernel

theorem test_witness_PollWithoutAFrame :
    ready.ready = true ∧ ({ ready with rxArr := [.timeout] } : State).nthRead 0 = .timeout ∧
    ({ ready with rxArr := [.transportError] } : State).nthRead 0 = .transportError := by
  decide +kernel

theorem test_witness_StatusFrameDecodes : ready.ready = true ∧ Memory.wf (memLoad [] fwFrame) = true := by decide +kernel

theorem test_witness_DecodeReadsFiveBytes :
    Memory.wf [] = true ∧ Memory.wf [(20, 1)] = true ∧
    (∀ k ∈ [20, 21, 22, 23, 24],
      (pad64 (zeros 20 ++ [0x1F, 0x04, 0x2C, 0x01, 0x3C])).get k
        = (pad64 (List.replicate 20 0xEE ++ [0x1F, 0x04, 0x2C, 0x01, 0x3C] ++ List.replicate 39 0xEE)).get k) ∧
    [cfgT.raw.stTemp, cfgT.raw.stTemp + 1, cfgT.raw.stRpm, cfgT.raw.stRpm + 1, cfgT.raw.stDuty] = [20, 21, 22, 23, 24] := by
  decide +kernel

theorem test_witness_FrameBufferHoldsTheFrame : Memory.wf [] = true ∧ Memory.wf [(0, 1), (63, 0xFF)] = true ∧ 63 < 64 := by
  decide +kernel

/-- A block about to make the handshake; every write will succeed, the reads answer as given. -/
def starting (reads : List ReadAnswer) : State := { fresh with txAns := List.replicate 4 .ok, rxArr := reads }

/-- The premises every statement about INIT shares. -/
def initReady (s : State) : Prop :=
  s.initEnabled = true ∧ s.fwack = false ∧ s.ltack = false ∧ Memory.wf s.rxf = true ∧ ∀ k < 4, s.nthWrite k = .ok

theorem initReady_starting (reads : List ReadAnswer) : initReady (starting reads) := ⟨rfl, rfl, rfl, rfl, by
  intro k hk
  match k, hk with
  | 0, _ => rfl
  | 1, _ => rfl
  | 2, _ => rfl
  | 3, _ => rfl⟩

theorem lacks_timeout (tag : Byte × Byte) : lacksTag .timeout tag := fun _ h => nomatch h

theorem lacks_error (tag : Byte × Byte) : lacksTag .transportError tag := fun _ h => nomatch h

theorem lacks_frame {F : Frame} {tag : Byte × Byte} (h : F.tag ≠ tag) : lacksTag (.frame F) tag := fun _ e => by
  cases e; exact h

/-- H1 and H2. -/
theorem test_witness_InitSucceedsInTwoReads :
    initReady (starting [.frame fwFrame, .frame ltFrame]) ∧ fwFrame.tag = (0x11, 0x01) ∧ ltFrame.tag = (0x21, 0x03) ∧
    (starting [.frame fwFrame, .frame ltFrame]).nthRead 0 = .frame fwFrame ∧
    (starting [.frame fwFrame, .frame ltFrame]).nthRead 1 = .frame ltFrame ∧
    initReady (starting [.frame ltFrame, .frame fwFrame]) ∧
    (starting [.frame ltFrame, .frame fwFrame]).nthRead 0 = .frame ltFrame ∧
    (starting [.frame ltFrame, .frame fwFrame]).nthRead 1 = .frame fwFrame :=
  ⟨initReady_starting _, by decide +kernel, by decide +kernel, rfl, rfl, initReady_starting _, rfl, rfl⟩

/-- H4: the acknowledgement still missing comes with read number `HS_MAX_READS`. -/
theorem test_witness_InitSucceedsWhenBothAcknowledged :
    let s := starting [.frame otherFrame, .frame fwFrame, .timeout, .frame ltFrame]
    initReady s ∧ 1 < 3 ∧ 3 < s.cfg.raw.hsMaxReads ∧ (∀ i < 3, s.nthRead i ≠ .transportError) ∧ s.nthRead 1 = .frame fwFrame ∧
    s.nthRead 3 = .frame ltFrame ∧ fwFrame.tag = (0x11, 0x01) ∧ ltFrame.tag = (0x21, 0x03) ∧
    ∀ i < 3, lacksTag (s.nthRead i) (0x21, 0x03) := by
  refine ⟨initReady_starting _, by decide, by decide +kernel, by decide +kernel, rfl, rfl, by decide +kernel, by decide +kernel, ?_⟩
  intro i hi
  match i, hi with
  | 0, _ => exact lacks_frame (by decide +kernel)
  | 1, _ => exact lacks_frame (by decide +kernel)
  | 2, _ => exact lacks_timeout _

/-- The other order, at the first two reads. -/
theorem test_witness_InitSucceedsWhenBothAcknowledged_swapped :
    let s := starting [.frame ltFrame, .frame fwFrame]
    initReady s ∧ 0 < 1 ∧ 1 < s.cfg.raw.hsMaxReads ∧ (∀ i < 1, s.nthRead i ≠ .transportError) ∧ s.nthRead 0 = .frame ltFrame ∧
    s.nthRead 1 = .frame fwFrame ∧ ∀ i < 1, lacksTag (s.nthRead i) (0x11, 0x01) := by
  refine ⟨initReady_starting _, by decide, by decide +kernel, by decide +kernel, rfl, rfl, ?_⟩
  intro i hi
  match i, hi with
  | 0, _ => exact lacks_frame (by decide +kernel)

/-- H3: no LTINFO; and a device that acknowledges the lighting request only. -/
theorem test_witness_InitTimesOut :
    (let s := starting [.frame fwFrame, .frame otherFrame, .timeout, .frame otherFrame]
     initReady s ∧ (∀ k < s.cfg.raw.hsMaxReads, s.nthRead k ≠ .transportError) ∧
      ∀ k < s.cfg.raw.hsMaxReads, lacksTag (s.nthRead k) (0x21, 0x03)) ∧
    (let s := starting [.frame ltFrame, .frame otherFrame, .timeout, .frame ltFrame]
     initReady s ∧ (∀ k < s.cfg.raw.hsMaxReads, s.nthRead k ≠ .transportError) ∧
      ∀ k < s.cfg.raw.hsMaxReads, lacksTag (s.nthRead k) (0x11, 0x01)) := by
  refine ⟨⟨initReady_starting _, by decide +kernel, ?_⟩, ⟨initReady_starting _, by decide +kernel, ?_⟩⟩ <;>
    intro k hk <;> have hk : k < 4 := hk
  · match k, hk with
    | 0, _ => exact lacks_frame (by decide +kernel)
    | 1, _ => exact lacks_frame (by decide +kernel)
    | 2, _ => exact lacks_timeout _
    | 3, _ => exact lacks_frame (by decide +kernel)
  · match k, hk with
    | 0, _ => exact lacks_frame (by decide +kernel)
    | 1, _ => exact lacks_frame (by decide +kernel)
    | 2, _ => exact lacks_timeout _
    | 3, _ => exact lacks_frame (by decide +kernel)

/-- The first request fails, and the last. -/
theorem test_witness_InitWriteFails :
    ∀ k ∈ [0, 3],
      let s : State := { fresh with txAns := List.replicate k .ok ++ [.transportError] }
      s.initEnabled = true ∧ s.fwack = false ∧ s.ltack = false ∧ k < 4 ∧ (∀ j < k, s.nthWrite j = .ok) ∧
        s.nthWrite k = .transportError := by
  decide +kernel

/-- The first read fails, and the last. -/
theorem test_witness_InitReadFails :
    (let s := starting [.transportError]
     initReady s ∧ 0 < s.cfg.raw.hsMaxReads ∧ s.nthRead 0 = .transportError) ∧
    (let s := starting [.timeout, .timeout, .timeout, .transportError]
     initReady s ∧ 3 < s.cfg.raw.hsMaxReads ∧ s.nthRead 3 = .transportError ∧ (∀ j < 3, s.nthRead j ≠ .transportError) ∧
      ∀ j < 3, lacksTag (s.nthRead j) (0x21, 0x03)) := by
  refine ⟨⟨initReady_starting _, by decide +kernel, rfl⟩,
    ⟨initReady_starting _, by decide +kernel, rfl, by decide +kernel, ?_⟩⟩
  intro j hj
  match j, hj with
  | 0, _ => exact lacks_timeout _
  | 1, _ => exact lacks_timeout _
  | 2, _ => exact lacks_timeout _

/-- Every write returns; and the first request, or the last, never does. -/
theorem test_witness_InitAlwaysEnds :
    (starting []).initEnabled = true ∧ (starting []).fwack = false ∧ (starting []).ltack = false ∧
    (∀ k < 4, (starting []).nthWrite k ≠ .never) ∧
    ∀ k ∈ [0, 3],
      let s : State := { fresh with txAns := List.replicate k .ok ++ [.never] }
      s.initEnabled = true ∧ s.fwack = false ∧ s.ltack = false ∧ k < 4 ∧ (∀ j < k, s.nthWrite j = .ok) ∧ s.nthWrite k = .never := by
  decide +kernel

/-- The four requests, each in its turn, with each answer. -/
theorem test_witness_RequestFramesAreWritten :
    ∀ p ∈ [(Instr.fwreq rawCfgT.fwReq, (0 : BitVec 2), rawCfgT.fwReq), (.ltreq rawCfgT.ltReq, 1, rawCfgT.ltReq),
        (.setint rawCfgT.setInt, 2, rawCfgT.setInt), (.ltconf rawCfgT.ltConf, 3, rawCfgT.ltConf)],
      ∀ a ∈ [WriteAnswer.ok, .transportError, .never],
        let s : State := { fresh with hsSent := p.2.1.toNat, txAns := [a] }
        encode p.1 = .request p.2.1 p.2.2 ∧ s.uninit = true ∧ s.hsSent = p.2.1.toNat ∧ p.2.2 = hsReq s.cfg.raw p.2.1.toNat ∧
          s.writeAnswer = a := by
  decide +kernel

/-- At the first read and at the last. -/
theorem test_witness_FwinfoAcknowledges :
    (Instr.fwinfo fwFrame).wellFormed = true ∧ ∀ k ∈ [0, 3], (reading k).hsReading = true ∧ Memory.wf (reading k).rxf = true := by
  decide +kernel

theorem test_witness_LtinfoAcknowledges :
    (Instr.ltinfo ltFrame).wellFormed = true ∧ ∀ k ∈ [0, 3], (reading k).hsReading = true ∧ Memory.wf (reading k).rxf = true := by
  decide +kernel

/-- A burst; a handshake that goes on; a command that waits while INIT behind it is served. -/
theorem test_witness_StepRunsDecodedInstruction :
    burstP1.busy = true ∧ (reading 0).busy = false ∧ (reading 0).hsRunning = true ∧
    (let s : State := { fresh with port := [.cmd (CmdWord.ofNat 0x14283C0A01), .init, .poll] }
     s.busy = false ∧ s.hsRunning = false ∧ s.port = [.cmd (CmdWord.ofNat 0x14283C0A01)] ++ .init :: [.poll] ∧
      (∀ p ∈ [PortWord.cmd (CmdWord.ofNat 0x14283C0A01)], s.enabled p = false) ∧ s.enabled .init = true ∧
      decode (.port .init) = .ok .init) := by
  decide +kernel

/-- The session after H3, with a command waiting. -/
def dead : State := { reading 4 with fwack := true, hsfail := true, err := .handshakeTimeout, port := [.cmd (CmdWord.ofNat 0x201), .init] }

theorem test_witness_HeldRequestsWait :
    dead.busy = false ∧ dead.hsRunning = false ∧ (∀ p ∈ dead.port, dead.enabled p = false) ∧ dead.port.length = 2 := by
  decide +kernel

theorem test_witness_HeldRequestsWait_burst :
    burstP1.busy = true ∧ ∃ t, step burstP1 = .next t := ⟨by decide +kernel, by
  rw [step, if_pos (by decide +kernel)]
  exact ⟨_, rfl⟩⟩

theorem fresh_inv : fresh.Inv := by constructor <;> decide +kernel

theorem ready_inv : ready.Inv := by constructor <;> decide +kernel

theorem burst_inv : burstP1.Inv := by constructor <;> decide +kernel

theorem dead_inv : dead.Inv := by constructor <;> decide +kernel

/-- Each operating state, with the invariant. -/
theorem test_witness_OperatingStatesEnable :
    (fresh.Inv ∧ fresh.opState = .uninit) ∧ (ready.Inv ∧ ready.opState = .ready) ∧ (burstP1.Inv ∧ burstP1.opState = .burst) ∧
    (dead.Inv ∧ dead.opState = .dead) :=
  ⟨⟨fresh_inv, by decide +kernel⟩, ⟨ready_inv, by decide +kernel⟩, ⟨burst_inv, by decide +kernel⟩, ⟨dead_inv, by decide +kernel⟩⟩

theorem test_witness_DeadStaysDead : dead.Inv ∧ dead.hsfail = true := ⟨dead_inv, by decide +kernel⟩

/-- After a write that never returned, the first write of the new session has the answer of the reopened transport. -/
theorem test_witness_NewSessionIsAReset :
    let s : State := { dead with txAns := [.never] }
    let t := newSession s [otherFrame] [.timeout] [.ok]
    t = newSession s [otherFrame] [.timeout] [.ok] ∧ t.port.length = 2 ∧ s.writeAnswer = .never ∧ t.writeAnswer = .ok ∧
    t.nthRead 0 = .frame otherFrame ∧ t.nthRead 1 = .timeout := by
  decide +kernel

theorem test_witness_StepKeepsInv : burstP1.Inv ∧ ∃ t, step burstP1 = .next t := ⟨burst_inv, test_witness_HeldRequestsWait_burst.2⟩

theorem test_witness_InvariantStatesAreFaultFree : burstP1.Inv := burst_inv

theorem test_witness_ExecKeepsInv : ready.Inv ∧ ∃ t, exec (.setFixed (ring2 1)) ready = .next t := ⟨ready_inv, _, rfl⟩

/-- In the middle of V-P1's burst, after an abandoned one. -/
def midBurst : State :=
  { burstP1 with fi := 1, txlog := requests rawCfgT ++ burstP1.fl.take 2 ++ burstP1.fl.take 1, txN := 8,
                 devRx := requests rawCfgT ++ burstP1.fl.take 3 ++ burstP1.fl.take 1 }

theorem burstP1_isBurst : IsBurst cfgT.raw burstP1.fl :=
  ⟨.ring, Effect.superFixed.code, 2, ColourRegs.ofList [e7, ⟨0xFF, 0x80, 0x00⟩], 2, by decide +kernel⟩

theorem test_witness_StepKeepsLogShape :
    midBurst.Inv ∧ LogShapeOf midBurst [⟨burstP1.fl.take 2, burstP1.fl⟩] ∧ ∃ t, step midBurst = .next t := by
  refine ⟨by constructor <;> decide +kernel, ⟨fun _ => burstP1_isBurst, ?_, ?_, ?_, ?_⟩, ?_⟩
  · intro b hb
    rw [List.mem_singleton] at hb
    subst hb
    exact ⟨burstP1_isBurst, List.take_prefix _ _⟩
  · decide +kernel
  · decide +kernel
  · decide +kernel
  · rw [step, if_pos (by decide +kernel)]
    exact ⟨_, rfl⟩

theorem test_witness_StepKeepsDeviceOrder : DeviceOrder midBurst ∧ ∃ t, step midBurst = .next t :=
  ⟨by unfold DeviceOrder; decide +kernel, test_witness_StepKeepsLogShape.2.2⟩

/-- For each flag, a state with the invariant in which the next step of an unfinished handshake writes it, and for `HSFAIL` one for
each cause. -/
theorem test_witness_FlagsAreWrittenOnlyByTheirSteps_step :
    (∀ p ∈ [(({ reading 0 with rxArr := [.frame fwFrame] } : State), [true, false, false, false, false]),
        ({ reading 0 with rxArr := [.frame ltFrame] }, [false, true, false, false, false]),
        ({ reading 2 with fwack := true, ltack := true }, [true, true, true, false, false]),
        ({ fresh with hsSent := 3, txAns := [.transportError] }, [false, false, false, true, false]),
        ({ reading 0 with rxArr := [.transportError] }, [false, false, false, true, false]),
        (reading 4, [false, false, false, true, false])],
      p.1.busy = false ∧ p.1.hsRunning = true ∧ flags (after (step p.1) fresh) = p.2) ∧
    ({ reading 0 with rxArr := [.frame fwFrame] } : State).Inv ∧ ({ reading 0 with rxArr := [.frame ltFrame] } : State).Inv ∧
    ({ reading 2 with fwack := true, ltack := true } : State).Inv ∧
    ({ fresh with hsSent := 3, txAns := [.transportError] } : State).Inv ∧
    ({ reading 0 with rxArr := [.transportError] } : State).Inv ∧ (reading 4).Inv := by
  refine ⟨by decide +kernel, ?_, ?_, ?_, ?_, ?_, ?_⟩ <;> constructor <;> decide +kernel

/-- For each flag, an instruction that changes it. -/
theorem test_witness_FlagsAreWrittenOnlyByTheirSteps :
    Memory.wf (reading 0).rxf = true ∧ (after (exec (.fwinfo fwFrame) (reading 0)) fresh).fwack ≠ (reading 0).fwack ∧
    (after (exec (.ltinfo ltFrame) (reading 0)) fresh).ltack ≠ (reading 0).ltack ∧
    (afterInit [.frame fwFrame, .frame ltFrame]).init ≠ fresh.init ∧ (afterInit [.transportError]).hsfail ≠ fresh.hsfail ∧
    burstP1.busy ≠ ready.busy ∧ (after (exec .emit { burstP1 with fi := 2, txAns := [.ok] }) fresh).busy ≠ burstP1.busy := by
  decide +kernel

theorem test_witness_TablesAreNeverWritten :
    (∃ t, exec .emit midBurst = .next t) ∧ ∃ t, step midBurst = .next t := by
  refine ⟨?_, test_witness_StepKeepsLogShape.2.2⟩
  have h := test_witness_StepKeepsLogShape.2.2
  rwa [step, if_pos (by decide +kernel)] at h

/-- The last class and the last level of CFG-T. -/
theorem test_witness_TablesAreTotal : 11 < 12 ∧ 4 ≤ 4 ∧ cfgT.raw.timingOf 11 4 = some (0xB4, 0xAB) := by decide +kernel

end Sys2Proof.Tests
end

/-! ### O58: the configured tables are never written

Each shared operation keeps the configuration, said once per operation; `exec` and `step` keep it because every case of
`exec_cases` and of `step_cases` is one of these operations. -/

namespace Sys2Proof.Machine

/-! #### The operations of ENC and DEC -/

@[simp] theorem issueCode_cfg (eff : BitVec 6) (a : CmdArgs) (s : State) : (issueCode eff a s).cfg = s.cfg := by
  cases hr : s.ready with
  | false => rw [issueCode_held hr]
  | true =>
    rw [issueCode_ready hr]
    cases build s.cfg.raw a.ch eff a.n.toNat a.col a.spd with
    | error x => simp
    | ok fl => simp

@[simp] theorem emitFrame_cfg (F : Frame) (s : State) : (emitFrame F s).cfg = s.cfg := by
  cases h : s.writeAnswer with
  | ok => simp [emitFrame_ok h]
  | transportError => simp [emitFrame_error h]
  | never => rw [emitFrame_never h]

@[simp] theorem sendFrame_cfg (F : Frame) (s : State) : (sendFrame F s).cfg = s.cfg := by
  unfold sendFrame
  split
  · exact emitFrame_cfg F s
  · rfl

@[simp] theorem pollAnswer_cfg (r : ReadAnswer) (s : State) : (pollAnswer r s).cfg = s.cfg := by
  cases r with
  | timeout => exact raise_cfg _ s
  | transportError => exact raise_cfg _ s
  | frame F => exact takeStatus_cfg F s

/-! #### The operations of HS -/

@[simp] theorem requestFrame_cfg (F : Frame) (s : State) : (requestFrame F s).cfg = s.cfg := by
  cases h : s.writeAnswer with
  | ok => simp [requestFrame_ok h]
  | transportError => simp [requestFrame_error h]
  | never => rw [requestFrame_never h]

@[simp] theorem sendRequest_cfg (k : Nat) (F : Frame) (s : State) : (sendRequest k F s).cfg = s.cfg := by
  unfold sendRequest
  split
  · exact requestFrame_cfg F s
  · rfl

/-- The firmware tag, the lighting tag and any other each leave the configuration. -/
@[simp] theorem hsFrame_cfg (F : Frame) (s : State) : (hsFrame F s).cfg = s.cfg := by
  unfold hsFrame
  dsimp only
  split
  · exact receive_cfg F s
  · split
    · exact receive_cfg F s
    · exact receive_cfg F s

@[simp] theorem hsAnswer_cfg (r : ReadAnswer) (s : State) : (hsAnswer r s).cfg = s.cfg := by
  cases r with
  | timeout => rfl
  | transportError => exact hsFail_cfg _ _
  | frame F => exact hsFrame_cfg F _

@[simp] theorem hsReceive_cfg (F : Frame) (s : State) : (hsReceive F s).cfg = s.cfg := by
  unfold hsReceive
  split
  · exact hsAnswer_cfg _ s
  · rfl

/-- A move of the handshake is a request, its success, its ceiling, or a read. -/
@[simp] theorem hsStep_cfg (s : State) : (hsStep s).cfg = s.cfg := by
  unfold hsStep
  split
  · exact requestFrame_cfg _ s
  · split
    · exact hsSuccess_cfg s
    · split
      · exact hsFail_cfg _ s
      · rw [hsAnswer_cfg, readDone_cfg]

@[simp] theorem hsRun_cfg (k : Nat) (s : State) : (hsRun k s).cfg = s.cfg :=
  hsRun_induct (P := fun t => t.cfg = s.cfg) (fun t _ ht => (hsStep_cfg t).trans ht) k s rfl

/-! #### Instructions and steps -/

/-- Where `EMIT` answers next, no burst was in progress and nothing changed, or a frame was emitted. -/
theorem exec_emit_next {s t : State} (h : exec .emit s = .next t) :
    (s.busy = false ∧ t = s) ∨ ∃ F, s.currentFrame = some F ∧ t = emitFrame F s := by
  change execEmit s = .next t at h
  unfold execEmit at h
  split at h
  · rename_i hb
    split at h
    · rename_i F hF
      cases h
      exact .inr ⟨F, currentFrame_eq_some.mpr ⟨hb, hF⟩, rfl⟩
    · cases h
  · rename_i hb
    cases h
    exact .inl ⟨by simpa using hb, rfl⟩

/-- R61 for an instruction. -/
theorem exec_keeps_cfg {i : Instr} {s t : State} (h : exec i s = .next t) : t.cfg = s.cfg := by
  rcases exec_cases i s with
    ⟨e, a, -, hset⟩ | ⟨F, -, hsent⟩ | ⟨k, F, -, hreq⟩ | ⟨F, -, hack⟩ | ⟨F, -, hstatus⟩ | ⟨-, hinit⟩ | ⟨-, hpoll⟩ | rfl
  · cases hset.symm.trans h
    exact issueCode_cfg _ a s
  · cases hsent.symm.trans h
    exact sendFrame_cfg F s
  · cases hreq.symm.trans h
    exact sendRequest_cfg _ F s
  · cases hack.symm.trans h
    exact hsReceive_cfg F s
  · cases hstatus.symm.trans h
    split
    · exact takeStatus_cfg F s
    · rfl
  · cases hinit.symm.trans h
    split
    · exact hsRun_cfg _ s
    · rfl
  · cases hpoll.symm.trans h
    split
    · rw [pollAnswer_cfg, readDone_cfg]
    · rfl
  · obtain ⟨-, rfl⟩ | ⟨F, -, rfl⟩ := exec_emit_next h
    · rfl
    · exact emitFrame_cfg F s

/-- R61 for a step: the request that a step takes off the port is served with the same configuration. -/
theorem step_keeps_cfg {s t : State} (h : step s = .next t) : t.cfg = s.cfg := by
  rcases step_cases s with
    ⟨-, hemit⟩ | ⟨-, -, hhs⟩ | ⟨-, -, hidle | ⟨q, qs, -, ⟨i, -, hserved⟩ | ⟨w, -, hreserved⟩⟩⟩
  · exact exec_keeps_cfg (hemit.symm.trans h)
  · cases hhs.symm.trans h
    exact hsStep_cfg s
  · cases hidle.symm.trans h
    rfl
  · exact exec_keeps_cfg (s := { s with port := qs }) (hserved.symm.trans h)
  · cases hreserved.symm.trans h
    exact issueCode_cfg _ _ { s with port := qs }

/-- Settles O58: each case of an instruction and of a step is an operation that keeps the configuration. -/
theorem tablesAreNeverWritten : Obligations.TablesAreNeverWritten :=
  ⟨fun _ _ _ => exec_keeps_cfg, fun _ _ => step_keeps_cfg⟩

end Sys2Proof.Machine

/-! ### The direction and the mode byte of the footer (R104, R105) -/

namespace Sys2Proof.Machine

/-- The base of the direction byte, as the case distinction of R104 writes it. -/
theorem dirBase_eq_ite (f : Family) :
    dirBase f = if f = .marquee then 4 else if f = .starryNight ∨ f = .movingAlternating then 1 else 0 := by
  cases f <;> rfl

theorem dirBase_le (f : Family) : dirBase f ≤ 4 := by
  rw [dirBase_eq_ite]
  split_ifs <;> omega

/-- The sum of R104 is at most 6, so the byte holds it unreduced. -/
theorem dirByte_toNat (e : Effect) : (dirByte e).toNat = dirBase e.info.family + if e.info.bwd then 2 else 0 := by
  have hbase := dirBase_le e.info.family
  unfold dirByte
  rw [BitVec.toNat_ofNat, Nat.mod_eq_of_lt]
  split_ifs <;> omega

/-- The mode byte, as the case distinction of R105 writes it: it reads the family of the effect and nothing else of it. -/
theorem modeByte_eq_ite (e : Effect) :
    modeByte e =
      if e.info.family = .fading ∨ e.info.family = .pulse ∨ e.info.family = .breathing then 8
      else if e.info.family = .taiChi ∨ e.info.family = .waterCooler then 5
      else if e.info.family = .loading then 4 else 0 := by
  unfold modeByte
  cases e.info.family <;> rfl

/-- Settles O11: the base of the direction byte and the mode byte by the cases of the family, and the direction byte's sum does
not overflow. -/
theorem lightDirectionAndModeBytes : Obligations.LightDirectionAndModeBytes :=
  ⟨fun e => (dirByte_toNat e).trans (by rw [dirBase_eq_ite]), modeByte_eq_ite⟩

end Sys2Proof.Machine

/-! ### The flags read as propositions -/

namespace Sys2Proof.Machine

theorem ready_iff {s : State} : s.ready = true ↔ s.init = true ∧ s.busy = false ∧ s.hsfail = false := by
  simp [State.ready, and_assoc]

theorem uninit_iff {s : State} : s.uninit = true ↔ s.init = false ∧ s.hsfail = false := by
  simp [State.uninit]

theorem initEnabled_iff {s : State} : s.initEnabled = true ↔ s.uninit = true ∧ s.hscnt = 0 ∧ s.hsSent = 0 := by
  simp [State.initEnabled, and_assoc]

theorem hsRunning_iff {s : State} : s.hsRunning = true ↔ s.uninit = true ∧ 0 < s.hsSent := by
  simp [State.hsRunning]

theorem hsReading_iff {s : State} :
    s.hsReading = true ↔ s.uninit = true ∧ s.hsSent = 4 ∧ (s.fwack = false ∨ s.ltack = false) ∧
      s.hscnt ≠ s.cfg.raw.hsMaxReads := by
  simp only [State.hsReading, Bool.and_eq_true, decide_eq_true_eq, Bool.not_eq_true', Bool.and_eq_false_iff,
    decide_eq_false_iff_not, and_assoc, ne_eq]

/-- The four ways a move of the handshake can go (R196, R198, R201, R203). -/
theorem hsStep_cases (s : State) :
    (s.hsSent < 4 ∧ hsStep s = requestFrame (hsReq s.cfg.raw s.hsSent) s) ∨
    (4 ≤ s.hsSent ∧ s.fwack = true ∧ s.ltack = true ∧ hsStep s = hsSuccess s) ∨
    (4 ≤ s.hsSent ∧ (s.fwack = false ∨ s.ltack = false) ∧ s.hscnt = s.cfg.raw.hsMaxReads ∧
      hsStep s = hsFail .handshakeTimeout s) ∨
    (4 ≤ s.hsSent ∧ (s.fwack = false ∨ s.ltack = false) ∧ s.hscnt ≠ s.cfg.raw.hsMaxReads ∧
      hsStep s = hsAnswer s.readAnswer (readDone s)) := by
  by_cases hlt : s.hsSent < 4
  · exact .inl ⟨hlt, hsStep_request hlt⟩
  have h4 : 4 ≤ s.hsSent := Nat.le_of_not_lt hlt
  by_cases hack : s.fwack = true ∧ s.ltack = true
  · exact .inr (.inl ⟨h4, hack.1, hack.2, by simp [hsStep, hlt, hack]⟩)
  have hmiss : s.fwack = false ∨ s.ltack = false := by
    simpa [← Bool.not_eq_true, ← not_and_or] using hack
  have hacks : (s.fwack && s.ltack) = false := Bool.and_eq_false_iff.mpr hmiss
  by_cases hceil : s.hscnt = s.cfg.raw.hsMaxReads
  · exact .inr (.inr (.inl ⟨h4, hmiss, hceil, by simp [hsStep, hlt, hacks, hceil]⟩))
  · exact .inr (.inr (.inr ⟨h4, hmiss, hceil, by simp [hsStep, hlt, hacks, hceil]⟩))

/-- What a read of the handshake writes: the registers of the loop, or the failure. -/
theorem hsAnswer_cases (r : ReadAnswer) (s : State) :
    (∃ v fw lt m, hsAnswer r s
      = { s with hscnt := s.hscnt + 1, fwver := v, fwack := fw, ltack := lt, rxf := m }) ∨
    hsAnswer r s = hsFail .transportError { s with hscnt := s.hscnt + 1 } := by
  cases r with
  | timeout => exact .inl ⟨_, _, _, _, rfl⟩
  | transportError => exact .inr rfl
  | frame F =>
    left
    simp only [hsAnswer, hsFrame]
    split_ifs <;> exact ⟨_, _, _, _, rfl⟩

end Sys2Proof.Machine

/-! ### O52, O53: the invariant of the state

Each shared operation keeps it; an instruction and a step are one of these operations. -/

namespace Sys2Proof.Machine

/-- The invariant does not read the fields named here: a state that differs from `s` in them only has it too. -/
theorem State.Inv.of_unread {s t : State} (h : s.Inv)
    (ht : t = { s with
      latch := t.latch, err := t.err, fwver := t.fwver, txlog := t.txlog, rxBuf := t.rxBuf, rxArr := t.rxArr, rxN := t.rxN,
      txAns := t.txAns, txN := t.txN, txStart := t.txStart, devRx := t.devRx, devHavoc := t.devHavoc, port := t.port }) :
    t.Inv := by
  rw [ht]
  exact ⟨h.txf_wf, h.rxf_wf, h.burst_index, h.burst_size, h.burst_init, h.init_acks, h.reads_bound, h.sent_bound, h.quiet,
    h.temp_range⟩

/-! #### ENC -/

theorem State.Inv.raise {s : State} (h : s.Inv) (e : Err) : (raise e s).Inv := h.of_unread rfl

theorem State.Inv.latchWrite {s : State} (h : s.Inv) (eff : BitVec 6) (a : CmdArgs) : (latchWrite eff a s).Inv :=
  h.of_unread rfl

theorem State.Inv.wrote {s : State} (h : s.Inv) (F : Frame) : (wrote F s).Inv :=
  ⟨memLoad_wf F h.txf_wf, h.rxf_wf, h.burst_index, h.burst_size, h.burst_init, h.init_acks, h.reads_bound, h.sent_bound,
    h.quiet, h.temp_range⟩

theorem State.Inv.writeFailed {s : State} (h : s.Inv) (F : Frame) : (writeFailed F s).Inv :=
  ⟨memLoad_wf F h.txf_wf, h.rxf_wf, h.burst_index, h.burst_size, h.burst_init, h.init_acks, h.reads_bound, h.sent_bound,
    h.quiet, h.temp_range⟩

/-- A burst loaded into an initialised session has an index and one of the three lengths. -/
theorem State.Inv.loadBurst {s : State} (h : s.Inv) (hinit : s.init = true) {fl : List Frame}
    (hb : IsBurst s.cfg.raw fl) : (loadBurst fl s).Inv where
  txf_wf := h.txf_wf
  rxf_wf := h.rxf_wf
  burst_index _ := by rw [loadBurst_fi, loadBurst_fl]; rcases isBurst_length hb with hl | hl | hl <;> omega
  burst_size _ := isBurst_length hb
  burst_init _ := hinit
  init_acks := h.init_acks
  reads_bound := h.reads_bound
  sent_bound := h.sent_bound
  quiet := h.quiet
  temp_range := h.temp_range

theorem State.Inv.advance {s : State} (h : s.Inv) (hbusy : s.busy = true) : (advance s).Inv := by
  rw [advance_eq hbusy (h.burst_index hbusy)]
  exact ⟨h.txf_wf, h.rxf_wf, of_decide_eq_true, fun _ => h.burst_size hbusy, fun _ => h.burst_init hbusy, h.init_acks,
    h.reads_bound, h.sent_bound, h.quiet, h.temp_range⟩

theorem State.Inv.abandon {s : State} (h : s.Inv) : (abandon s).Inv :=
  ⟨h.txf_wf, h.rxf_wf, nofun, nofun, nofun, h.init_acks, h.reads_bound, h.sent_bound, h.quiet, h.temp_range⟩

theorem State.Inv.issueCode {s : State} (h : s.Inv) (eff : BitVec 6) (a : CmdArgs) : (issueCode eff a s).Inv := by
  cases hr : s.ready with
  | false => rwa [issueCode_held hr]
  | true =>
    rw [issueCode_ready hr]
    cases hb : build s.cfg.raw a.ch eff a.n.toNat a.col a.spd with
    | error x => exact (h.latchWrite eff a).raise _
    | ok fl => exact (h.latchWrite eff a).loadBurst (ready_iff.mp hr).1 ⟨_, _, _, _, _, hb⟩

theorem State.Inv.emitFrame {s : State} (h : s.Inv) (hbusy : s.busy = true) (F : Frame) : (emitFrame F s).Inv := by
  cases hw : s.writeAnswer with
  | ok => rw [emitFrame_ok hw]; exact (h.wrote F).advance hbusy
  | transportError => rw [emitFrame_error hw]; exact (h.writeFailed F).abandon
  | never => rwa [emitFrame_never hw]

theorem State.Inv.sendFrame {s : State} (h : s.Inv) (F : Frame) : (sendFrame F s).Inv := by
  unfold Machine.sendFrame
  split
  case isTrue hc => exact h.emitFrame (currentFrame_eq_some.mp hc).1 F
  case isFalse => exact h

/-! #### DEC -/

theorem State.Inv.readDone {s : State} (h : s.Inv) : (readDone s).Inv := by
  rw [readDone_eq]
  exact h.of_unread rfl

theorem State.Inv.receive {s : State} (h : s.Inv) (F : Frame) : (receive F s).Inv :=
  ⟨h.txf_wf, memLoad_wf F h.rxf_wf, h.burst_index, h.burst_size, h.burst_init, h.init_acks, h.reads_bound, h.sent_bound,
    h.quiet, h.temp_range⟩

/-- R187: two bytes make at most 2805 tenths of a degree. -/
theorem decodeStatus_temp10_le (c : RawCfg) (m : Memory) : (decodeStatus c m).temp10 ≤ 2805 := by
  have hhi := (memRead m c.stTemp).isLt
  have hlo := (memRead m (c.stTemp + 1)).isLt
  simp only [decodeStatus]
  omega

theorem State.Inv.takeStatus {s : State} (h : s.Inv) (F : Frame) : (takeStatus F s).Inv :=
  ⟨h.txf_wf, memLoad_wf F h.rxf_wf, h.burst_index, h.burst_size, h.burst_init, h.init_acks, h.reads_bound, h.sent_bound,
    h.quiet, decodeStatus_temp10_le _ _⟩

theorem State.Inv.pollAnswer {s : State} (h : s.Inv) (r : ReadAnswer) : (pollAnswer r s).Inv := by
  cases r with
  | timeout => exact h.raise _
  | transportError => exact h.raise _
  | frame F => exact h.takeStatus F

/-! #### HS -/

theorem State.Inv.hsFail {s : State} (h : s.Inv) (hinit : s.init = false) (e : Err) : (hsFail e s).Inv :=
  ⟨h.txf_wf, h.rxf_wf, h.burst_index, h.burst_size, h.burst_init,
    fun ht => absurd (hinit.symm.trans ht) Bool.false_ne_true, h.reads_bound, h.sent_bound, h.quiet, h.temp_range⟩

theorem State.Inv.hsSuccess {s : State} (h : s.Inv) (hfw : s.fwack = true) (hlt : s.ltack = true) (hsent : s.hsSent = 4)
    (hfail : s.hsfail = false) : (hsSuccess s).Inv :=
  ⟨h.txf_wf, h.rxf_wf, h.burst_index, h.burst_size, fun _ => rfl, fun _ => ⟨hfw, hlt, hsent, hfail⟩, h.reads_bound,
    h.sent_bound, h.quiet, h.temp_range⟩

/-- A request that was written before the fourth leaves the read loop untouched. -/
theorem State.Inv.countRequest {s : State} (h : s.Inv) (hu : s.uninit = true) (hsent : s.hsSent < 4) :
    State.Inv { s with hsSent := s.hsSent + 1 } :=
  ⟨h.txf_wf, h.rxf_wf, h.burst_index, h.burst_size, h.burst_init,
    fun ht => absurd ((uninit_iff.mp hu).1.symm.trans ht) Bool.false_ne_true, h.reads_bound, hsent, fun _ => h.quiet hsent,
    h.temp_range⟩

theorem State.Inv.requestFrame {s : State} (h : s.Inv) (hu : s.uninit = true) (hsent : s.hsSent < 4) (F : Frame) :
    (requestFrame F s).Inv := by
  cases hw : s.writeAnswer with
  | ok => rw [requestFrame_ok hw]; exact (h.wrote F).countRequest hu hsent
  | transportError => rw [requestFrame_error hw]; exact (h.writeFailed F).hsFail (uninit_iff.mp hu).1 _
  | never => rwa [requestFrame_never hw]

theorem State.Inv.sendRequest {s : State} (h : s.Inv) (k : BitVec 2) (F : Frame) : (sendRequest k.toNat F s).Inv := by
  unfold Machine.sendRequest
  split
  case isTrue hc =>
    simp only [Bool.and_eq_true, decide_eq_true_eq] at hc
    obtain ⟨⟨hu, hk⟩, -⟩ := hc
    exact h.requestFrame hu (hk ▸ k.isLt) F
  case isFalse => exact h

/-- A read of the loop may set the version and the acknowledgements, since all four requests are written. -/
theorem State.Inv.acknowledge {s : State} (h : s.Inv) (hu : s.uninit = true) (hsent : s.hsSent = 4) (v : FwVer)
    (fw lt : Bool) : State.Inv { s with fwver := v, fwack := fw, ltack := lt } :=
  ⟨h.txf_wf, h.rxf_wf, h.burst_index, h.burst_size, h.burst_init,
    fun ht => absurd ((uninit_iff.mp hu).1.symm.trans ht) Bool.false_ne_true, h.reads_bound, h.sent_bound,
    fun hlt => absurd (hsent ▸ hlt : 4 < 4) (lt_irrefl 4), h.temp_range⟩

theorem State.Inv.hsFrame {s : State} (h : s.Inv) (hu : s.uninit = true) (hsent : s.hsSent = 4) (F : Frame) :
    (hsFrame F s).Inv := by
  have hr := h.receive F
  by_cases hfw : F.tag = (0x11, 0x01)
  · rw [hsFrame_fwinfo h.rxf_wf hfw]
    exact hr.acknowledge hu hsent _ true _
  by_cases hlt : F.tag = (0x21, 0x03)
  · rw [hsFrame_ltinfo h.rxf_wf hlt]
    exact hr.acknowledge hu hsent _ _ true
  · rw [hsFrame_other h.rxf_wf hfw hlt]
    exact hr

/-- R198: a read attempt below the ceiling is counted. -/
theorem State.Inv.countRead {s : State} (h : s.Inv) (hsent : s.hsSent = 4) (hceil : s.hscnt ≠ s.cfg.raw.hsMaxReads) :
    State.Inv { s with hscnt := s.hscnt + 1 } :=
  ⟨h.txf_wf, h.rxf_wf, h.burst_index, h.burst_size, h.burst_init, h.init_acks,
    Nat.succ_le_of_lt (Nat.lt_of_le_of_ne h.reads_bound hceil), h.sent_bound,
    fun hlt => absurd (hsent ▸ hlt : 4 < 4) (lt_irrefl 4), h.temp_range⟩

theorem State.Inv.hsAnswer {s : State} (h : s.Inv) (hu : s.uninit = true) (hsent : s.hsSent = 4)
    (hceil : s.hscnt ≠ s.cfg.raw.hsMaxReads) (r : ReadAnswer) : (hsAnswer r s).Inv := by
  have hc := h.countRead hsent hceil
  cases r with
  | timeout => exact hc
  | transportError => exact hc.hsFail (uninit_iff.mp hu).1 _
  | frame F => exact hc.hsFrame hu hsent F

theorem State.Inv.hsReceive {s : State} (h : s.Inv) (F : Frame) : (hsReceive F s).Inv := by
  unfold Machine.hsReceive
  split
  case isTrue hr =>
    obtain ⟨hu, hsent, -, hceil⟩ := hsReading_iff.mp hr
    exact h.hsAnswer hu hsent hceil _
  case isFalse => exact h

@[simp] theorem readDone_uninit (s : State) : (readDone s).uninit = s.uninit := by
  simp [State.uninit]

theorem State.Inv.hsStep {s : State} (h : s.Inv) (hu : s.uninit = true) : (hsStep s).Inv := by
  have hle := h.sent_bound
  rcases hsStep_cases s with
    ⟨hsent, hreq⟩ | ⟨hsent, hfw, hlt, hsucc⟩ | ⟨-, -, -, htime⟩ | ⟨hsent, -, hceil, hread⟩
  · rw [hreq]
    exact h.requestFrame hu hsent _
  · rw [hsucc]
    exact h.hsSuccess hfw hlt (by omega) (uninit_iff.mp hu).2
  · rw [htime]
    exact h.hsFail (uninit_iff.mp hu).1 _
  · rw [hread]
    exact h.readDone.hsAnswer (by simpa using hu) (by rw [readDone_hsSent]; omega) (by simpa using hceil) _

theorem State.Inv.hsRun {s : State} (h : s.Inv) (k : Nat) : (hsRun k s).Inv :=
  hsRun_induct (P := State.Inv) (fun _ hu ht => ht.hsStep hu) k s h

/-! #### Instructions and steps -/

/-- The invariant is kept by every instruction. -/
theorem State.Inv.exec {i : Instr} {s t : State} (h : s.Inv) (hx : exec i s = .next t) : t.Inv := by
  rcases exec_cases i s with
    ⟨e, a, -, hset⟩ | ⟨F, -, hsent⟩ | ⟨k, F, -, hreq⟩ | ⟨F, -, hack⟩ | ⟨F, -, hstatus⟩ | ⟨-, hinit⟩ | ⟨-, hpoll⟩ | rfl
  · cases hset.symm.trans hx
    exact h.issueCode _ a
  · cases hsent.symm.trans hx
    exact h.sendFrame F
  · cases hreq.symm.trans hx
    exact h.sendRequest k F
  · cases hack.symm.trans hx
    exact h.hsReceive F
  · cases hstatus.symm.trans hx
    split
    · exact h.takeStatus F
    · exact h
  · cases hinit.symm.trans hx
    split
    · exact h.hsRun _
    · exact h
  · cases hpoll.symm.trans hx
    split
    · exact h.readDone.pollAnswer _
    · exact h
  · obtain ⟨-, rfl⟩ | ⟨F, hF, rfl⟩ := exec_emit_next hx
    · exact h
    · exact h.emitFrame (currentFrame_eq_some.mp hF).1 F

theorem State.Inv.withPort {s : State} (h : s.Inv) (qs : List PortWord) : State.Inv { s with port := qs } := h.of_unread rfl

/-- The invariant is kept by every step. -/
theorem State.Inv.step {s t : State} (h : s.Inv) (hx : step s = .next t) : t.Inv := by
  rcases step_cases s with
    ⟨-, hemit⟩ | ⟨-, hrun, hhs⟩ | ⟨-, -, hidle | ⟨q, qs, -, ⟨i, -, hserved⟩ | ⟨w, -, hreserved⟩⟩⟩
  · exact h.exec (hemit.symm.trans hx)
  · cases hhs.symm.trans hx
    exact h.hsStep (hsRunning_iff.mp hrun).1
  · cases hidle.symm.trans hx
    exact h
  · exact (h.withPort qs).exec (hserved.symm.trans hx)
  · cases hreserved.symm.trans hx
    exact (h.withPort qs).issueCode _ _

/-- Settles O53: every instruction is one of the operations that keep the invariant. -/
theorem execKeepsInv : Obligations.ExecKeepsInv := fun _ _ _ => State.Inv.exec

/-- Settles O52: every step is one of the operations that keep the invariant. -/
theorem stepKeepsInv : Obligations.StepKeepsInv := fun _ _ => State.Inv.step

/-- From a state with the invariant every instruction answers next: EMIT's only fault is a missing current frame. -/
theorem State.Inv.exec_next {s : State} (h : s.Inv) (i : Instr) : ∃ t, Machine.exec i s = .next t := by
  rcases exec_cases i s with
    ⟨e, a, -, hset⟩ | ⟨F, -, hsent⟩ | ⟨k, F, -, hreq⟩ | ⟨F, -, hack⟩ | ⟨F, -, hstatus⟩ | ⟨-, hinit⟩ | ⟨-, hpoll⟩ | rfl
  · exact ⟨_, hset⟩
  · exact ⟨_, hsent⟩
  · exact ⟨_, hreq⟩
  · exact ⟨_, hack⟩
  · exact ⟨_, hstatus⟩
  · exact ⟨_, hinit⟩
  · exact ⟨_, hpoll⟩
  · change ∃ t, execEmit s = .next t
    unfold execEmit
    split
    case isTrue hb =>
      rw [List.getElem?_eq_getElem (h.burst_index hb)]
      exact ⟨_, rfl⟩
    case isFalse => exact ⟨_, rfl⟩

/-- Settles O54: the step is EMIT with a current frame, or an operation that cannot fault. -/
theorem invariantStatesAreFaultFree : Obligations.InvariantStatesAreFaultFree := by
  intro s h
  rcases step_cases s with
    ⟨-, hemit⟩ | ⟨-, -, hhs⟩ | ⟨-, -, hidle | ⟨q, qs, -, ⟨i, -, hserved⟩ | ⟨w, -, hreserved⟩⟩⟩
  · rw [hemit]
    exact h.exec_next _
  · exact ⟨_, hhs⟩
  · exact ⟨_, hidle⟩
  · rw [hserved]
    exact (h.withPort qs).exec_next i
  · exact ⟨_, hreserved⟩

end Sys2Proof.Machine

/-! ### O56: what reached the device -/

namespace Sys2Proof.Machine

/-- From `s` to `t` frames were appended to `TXLOG` and to what reached the device, and the device got those of `TXLOG`, in their
order. -/
def Appends (s t : State) : Prop :=
  ∃ sent got, t.txlog = s.txlog ++ sent ∧ t.devRx = s.devRx ++ got ∧ sent.Sublist got

/-- An operation that leaves both lists appends nothing. -/
theorem Appends.of_eq {s t : State} (hlog : t.txlog = s.txlog) (hdev : t.devRx = s.devRx) : Appends s t :=
  ⟨[], [], by simpa using hlog, by simpa using hdev, .slnil⟩

theorem Appends.trans {s t u : State} (h : Appends s t) (h' : Appends t u) : Appends s u := by
  obtain ⟨sent, got, hlog, hdev, hsub⟩ := h
  obtain ⟨sent', got', hlog', hdev', hsub'⟩ := h'
  exact ⟨sent ++ sent', got ++ got', by rw [hlog', hlog, List.append_assoc], by rw [hdev', hdev, List.append_assoc],
    hsub.append hsub'⟩

theorem appends_wrote (F : Frame) (s : State) : Appends s (wrote F s) := ⟨[F], [F], rfl, rfl, .refl _⟩

theorem appends_writeFailed (F : Frame) (s : State) : Appends s (writeFailed F s) :=
  ⟨[], _, (List.append_nil _).symm, rfl, List.nil_sublist _⟩

theorem appends_issueCode (eff : BitVec 6) (a : CmdArgs) (s : State) : Appends s (issueCode eff a s) := by
  cases hr : s.ready with
  | false => rw [issueCode_held hr]; exact .of_eq rfl rfl
  | true =>
    rw [issueCode_ready hr]
    cases build s.cfg.raw a.ch eff a.n.toNat a.col a.spd with
    | error x => exact .of_eq rfl rfl
    | ok fl => exact .of_eq rfl rfl

theorem appends_emitFrame (F : Frame) (s : State) : Appends s (emitFrame F s) := by
  cases hw : s.writeAnswer with
  | ok => rw [emitFrame_ok hw]; exact (appends_wrote F s).trans (.of_eq (advance_txlog _) (advance_devRx _))
  | transportError => rw [emitFrame_error hw]; exact (appends_writeFailed F s).trans (.of_eq rfl rfl)
  | never => rw [emitFrame_never hw]; exact .of_eq rfl rfl

theorem appends_sendFrame (F : Frame) (s : State) : Appends s (sendFrame F s) := by
  unfold sendFrame
  split
  · exact appends_emitFrame F s
  · exact .of_eq rfl rfl

theorem appends_requestFrame (F : Frame) (s : State) : Appends s (requestFrame F s) := by
  cases hw : s.writeAnswer with
  | ok => rw [requestFrame_ok hw]; exact (appends_wrote F s).trans (.of_eq rfl rfl)
  | transportError => rw [requestFrame_error hw]; exact (appends_writeFailed F s).trans (.of_eq rfl rfl)
  | never => rw [requestFrame_never hw]; exact .of_eq rfl rfl

theorem appends_sendRequest (k : Nat) (F : Frame) (s : State) : Appends s (sendRequest k F s) := by
  unfold sendRequest
  split
  · exact appends_requestFrame F s
  · exact .of_eq rfl rfl

/-- A read of the handshake writes neither list. -/
@[simp] theorem hsAnswer_txlog (r : ReadAnswer) (s : State) : (hsAnswer r s).txlog = s.txlog := by
  rcases hsAnswer_cases r s with ⟨_, _, _, _, hread⟩ | hfail
  · rw [hread]
  · rw [hfail]
    rfl

@[simp] theorem hsAnswer_devRx (r : ReadAnswer) (s : State) : (hsAnswer r s).devRx = s.devRx := by
  rcases hsAnswer_cases r s with ⟨_, _, _, _, hread⟩ | hfail
  · rw [hread]
  · rw [hfail]
    rfl

theorem appends_hsReceive (F : Frame) (s : State) : Appends s (hsReceive F s) := by
  unfold hsReceive
  split
  · exact .of_eq (hsAnswer_txlog _ s) (hsAnswer_devRx _ s)
  · exact .of_eq rfl rfl

theorem appends_hsStep (s : State) : Appends s (hsStep s) := by
  rcases hsStep_cases s with ⟨-, hreq⟩ | ⟨-, -, -, hsucc⟩ | ⟨-, -, -, htime⟩ | ⟨-, -, -, hread⟩
  · rw [hreq]
    exact appends_requestFrame _ s
  · rw [hsucc]
    exact .of_eq rfl rfl
  · rw [htime]
    exact .of_eq rfl rfl
  · rw [hread]
    exact .of_eq (by simp) (by simp)

theorem appends_hsRun (k : Nat) (s : State) : Appends s (hsRun k s) :=
  hsRun_induct (P := Appends s) (fun t _ ht => ht.trans (appends_hsStep t)) k s (.of_eq rfl rfl)

theorem appends_pollAnswer (r : ReadAnswer) (s : State) : Appends s (pollAnswer r s) := by
  cases r with
  | timeout => exact .of_eq rfl rfl
  | transportError => exact .of_eq rfl rfl
  | frame F => exact .of_eq rfl rfl

/-- Every instruction only appends. -/
theorem appends_exec {i : Instr} {s t : State} (hx : exec i s = .next t) : Appends s t := by
  rcases exec_cases i s with
    ⟨e, a, -, hset⟩ | ⟨F, -, hsent⟩ | ⟨k, F, -, hreq⟩ | ⟨F, -, hack⟩ | ⟨F, -, hstatus⟩ | ⟨-, hinit⟩ | ⟨-, hpoll⟩ | rfl
  · cases hset.symm.trans hx
    exact appends_issueCode _ a s
  · cases hsent.symm.trans hx
    exact appends_sendFrame F s
  · cases hreq.symm.trans hx
    exact appends_sendRequest _ F s
  · cases hack.symm.trans hx
    exact appends_hsReceive F s
  · cases hstatus.symm.trans hx
    split <;> exact .of_eq rfl rfl
  · cases hinit.symm.trans hx
    split
    · exact appends_hsRun _ s
    · exact .of_eq rfl rfl
  · cases hpoll.symm.trans hx
    split
    · exact Appends.trans (.of_eq (readDone_txlog s) (readDone_devRx s)) (appends_pollAnswer _ _)
    · exact .of_eq rfl rfl
  · obtain ⟨-, rfl⟩ | ⟨F, -, rfl⟩ := exec_emit_next hx
    · exact .of_eq rfl rfl
    · exact appends_emitFrame F s

/-- Every step only appends. -/
theorem appends_step {s t : State} (hx : step s = .next t) : Appends s t := by
  rcases step_cases s with
    ⟨-, hemit⟩ | ⟨-, -, hhs⟩ | ⟨-, -, hidle | ⟨q, qs, -, ⟨i, -, hserved⟩ | ⟨w, -, hreserved⟩⟩⟩
  · exact appends_exec (hemit.symm.trans hx)
  · cases hhs.symm.trans hx
    exact appends_hsStep s
  · cases hidle.symm.trans hx
    exact .of_eq rfl rfl
  · exact Appends.trans (.of_eq rfl rfl) (appends_exec (s := { s with port := qs }) (hserved.symm.trans hx))
  · cases hreserved.symm.trans hx
    exact Appends.trans (.of_eq rfl rfl) (appends_issueCode _ _ { s with port := qs })

/-- Settles O56: a step appends to both lists, and what it appends to the device's holds what it appends to `TXLOG`. -/
theorem stepKeepsDeviceOrder : Obligations.StepKeepsDeviceOrder := by
  intro s t hord hx
  obtain ⟨sent, got, hlog, hdev, hsub⟩ := appends_step hx
  refine ⟨?_, ⟨sent, hlog.symm⟩, ⟨got, hdev.symm⟩⟩
  unfold DeviceOrder
  rw [hlog, hdev]
  exact List.Sublist.append hord hsub

end Sys2Proof.Machine

/-! ### O55: the shape of `TXLOG` -/

namespace Sys2Proof.Machine

/-- The shape does not read the fields named here. -/
theorem LogShapeOf.of_unread {s t : State} {bs : List PastBurst} (h : LogShapeOf s bs)
    (ht : t = { s with
      latch := t.latch, fwack := t.fwack, ltack := t.ltack, hsfail := t.hsfail, err := t.err, fwver := t.fwver,
      status := t.status, hscnt := t.hscnt, txf := t.txf, rxf := t.rxf, rxBuf := t.rxBuf, rxArr := t.rxArr, rxN := t.rxN,
      txAns := t.txAns, devRx := t.devRx, devHavoc := t.devHavoc, port := t.port }) : LogShapeOf t bs := by
  rw [ht]
  exact ⟨h.current, h.past, h.none_yet, h.log, h.abandoned⟩

/-- A write that failed outside a burst leaves the log as it is, and is one more write that did not succeed. -/
theorem LogShapeOf.writeFailed {s : State} {bs : List PastBurst} (h : LogShapeOf s bs) (F : Frame) :
    LogShapeOf (writeFailed F s) bs :=
  ⟨h.current, h.past, h.none_yet, h.log, Nat.le_succ_of_le h.abandoned⟩

/-! #### Bursts -/

/-- A burst accepted where none is in progress begins with none of its frames sent. -/
theorem LogShapeOf.loadBurst {s : State} {bs : List PastBurst} (h : LogShapeOf s bs) (hbusy : s.busy = false)
    {fl : List Frame} (hb : IsBurst s.cfg.raw fl) : LogShapeOf (loadBurst fl s) bs where
  current _ := hb
  past := h.past
  none_yet := h.none_yet
  log := by simpa [inProgress, hbusy, requestsSent] using h.log
  abandoned := h.abandoned

theorem LogShapeOf.issueCode {s : State} {bs : List PastBurst} (h : LogShapeOf s bs) (eff : BitVec 6) (a : CmdArgs) :
    LogShapeOf (issueCode eff a s) bs := by
  cases hr : s.ready with
  | false => rwa [issueCode_held hr]
  | true =>
    rw [issueCode_ready hr]
    have hl : LogShapeOf (latchWrite eff a s) bs := h.of_unread rfl
    cases hb : build s.cfg.raw a.ch eff a.n.toNat a.col a.spd with
    | error x => exact hl.of_unread rfl
    | ok fl => exact hl.loadBurst (ready_iff.mp hr).2.1 ⟨_, _, _, _, _, hb⟩

theorem take_succ_of_getElem? {fl : List Frame} {k : Nat} {F : Frame} (hF : fl[k]? = some F) :
    fl.take (k + 1) = fl.take k ++ [F] := by
  rw [List.take_add_one, hF, Option.toList_some]

/-- How many bursts were abandoned, counted with one burst more. -/
theorem abandonedCount_append (bs : List PastBurst) (b : PastBurst) :
    abandonedCount (bs ++ [b]) = abandonedCount bs + if b.sent = b.whole then 0 else 1 := by
  by_cases h : b.sent = b.whole <;> simp [abandonedCount, h]

/-- A frame sent that is not the last: the burst goes on. -/
theorem LogShapeOf.advance_more {s : State} {bs : List PastBurst} {F : Frame} (h : LogShapeOf s bs) (hbusy : s.busy = true)
    (hF : s.fl[s.fi]? = some F) (hmore : s.fi + 1 ≠ s.fl.length) : LogShapeOf (advance (wrote F s)) bs where
  current _ := by simpa using h.current hbusy
  past := by simpa using h.past
  none_yet := by simpa using h.none_yet
  log := by
    have hb : (advance (wrote F s)).busy = true := by simp [advance_busy, hbusy, hmore]
    have hlog := h.log
    simp only [inProgress, hbusy, if_true] at hlog
    simp only [inProgress, hb, if_true, advance_txlog, wrote_txlog, advance_fl, advance_fi, wrote_fl, wrote_fi, requestsSent,
      advance_hsSent, advance_cfg, wrote_hsSent, wrote_cfg, take_succ_of_getElem? hF, hlog, List.append_assoc]
  abandoned := by
    have := h.abandoned
    simp only [advance_txStart, wrote_txStart, advance_txlog, wrote_txlog, advance_txN, wrote_txN, List.length_append,
      List.length_singleton]
    omega

/-- The last frame sent: the burst is one of the past, whole. -/
theorem LogShapeOf.advance_last {s : State} {bs : List PastBurst} {F : Frame} (h : LogShapeOf s bs) (hbusy : s.busy = true)
    (hinit : s.init = true) (hF : s.fl[s.fi]? = some F) (hlast : s.fi + 1 = s.fl.length) :
    LogShapeOf (advance (wrote F s)) (bs ++ [⟨s.fl, s.fl⟩]) := by
  have hb : (advance (wrote F s)).busy = false := by simp [advance_busy, hlast]
  refine ⟨fun ht => absurd (hb.symm.trans ht) Bool.false_ne_true, ?_, ?_, ?_, ?_⟩
  · intro b hmem
    rcases List.mem_append.mp hmem with hold | hnew
    · simpa using h.past b hold
    · rw [List.mem_singleton.mp hnew]
      exact ⟨by simpa using h.current hbusy, List.prefix_rfl⟩
  · intro ht
    simp [hinit] at ht
  · have hlog := h.log
    have hall : s.fl.take s.fi ++ [F] = s.fl := by
      rw [← take_succ_of_getElem? hF, hlast, List.take_length]
    simp only [inProgress, hbusy, if_true] at hlog
    simp [inProgress, hb, requestsSent, hlog, hall]
  · have := h.abandoned
    simp only [advance_txStart, wrote_txStart, advance_txlog, wrote_txlog, advance_txN, wrote_txN, List.length_append,
      List.length_singleton, abandonedCount_append, if_true]
    omega

/-- A write that failed: the burst is one of the past, with the frames sent before. -/
theorem LogShapeOf.abandon {s : State} {bs : List PastBurst} (h : LogShapeOf s bs) (hbusy : s.busy = true)
    (hinit : s.init = true) (F : Frame) :
    LogShapeOf (abandon (Machine.writeFailed F s)) (bs ++ [⟨s.fl.take s.fi, s.fl⟩]) := by
  refine ⟨nofun, ?_, ?_, ?_, ?_⟩
  · intro b hmem
    rcases List.mem_append.mp hmem with hold | hnew
    · exact h.past b hold
    · rw [List.mem_singleton.mp hnew]
      exact ⟨h.current hbusy, List.take_prefix _ _⟩
  · intro ht
    simp [hinit] at ht
  · have hlog := h.log
    simp only [inProgress, hbusy, if_true] at hlog
    simp [inProgress, requestsSent, hlog]
  · have := h.abandoned
    simp only [abandon_txStart, writeFailed_txStart, abandon_txlog, writeFailed_txlog, abandon_txN, writeFailed_txN,
      abandonedCount_append]
    split <;> omega

/-- What EMIT makes of the past bursts: the burst in progress goes on, or it is ended, whole or abandoned. -/
theorem LogShapeOf.emitFrame {s : State} {bs : List PastBurst} {F : Frame} (h : LogShapeOf s bs) (hbusy : s.busy = true)
    (hinit : s.init = true) (hF : s.fl[s.fi]? = some F) :
    ∃ bs', LogShapeOf (emitFrame F s) bs' ∧ ExtendsBursts s (emitFrame F s) bs bs' := by
  cases hw : s.writeAnswer with
  | ok =>
    rw [emitFrame_ok hw]
    by_cases hlast : s.fi + 1 = s.fl.length
    · exact ⟨_, h.advance_last hbusy hinit hF hlast,
        .inr ⟨hbusy, by simp [advance_busy, hlast], .inl ⟨rfl, hw⟩⟩⟩
    · exact ⟨bs, h.advance_more hbusy hF hlast, .inl ⟨rfl, fun _ => ⟨by simp [advance_busy, hbusy, hlast], by simp⟩⟩⟩
  | transportError =>
    rw [emitFrame_error hw]
    exact ⟨_, h.abandon hbusy hinit F, .inr ⟨hbusy, rfl, .inr ⟨rfl, hw⟩⟩⟩
  | never =>
    rw [emitFrame_never hw]
    exact ⟨bs, h, .inl ⟨rfl, fun hb => ⟨hb, rfl⟩⟩⟩

/-! #### The handshake -/

/-- Request `HS_REQ[hsSent]` is the next one in the log: no burst precedes it. -/
theorem LogShapeOf.request {s : State} {bs : List PastBurst} (h : LogShapeOf s bs) (hu : s.uninit = true)
    (hbusy : s.busy = false) :
    LogShapeOf (requestFrame (hsReq s.cfg.raw s.hsSent) s) bs := by
  cases hw : s.writeAnswer with
  | ok =>
    rw [requestFrame_ok hw]
    have hbs : bs = [] := h.none_yet (uninit_iff.mp hu).1
    refine ⟨h.current, h.past, h.none_yet, ?_, ?_⟩
    · have hlog := h.log
      simp only [inProgress, hbusy, hbs] at hlog
      simp [inProgress, hbusy, hbs, hlog, requestsSent, List.range_succ]
    · have := h.abandoned
      simp only [wrote_txStart, wrote_txlog, wrote_txN, List.length_append, List.length_singleton]
      omega
  | transportError =>
    rw [requestFrame_error hw]
    exact (h.writeFailed (hsReq s.cfg.raw s.hsSent)).of_unread rfl
  | never => rwa [requestFrame_never hw]

/-- Success opens the session; the log is as before. -/
theorem LogShapeOf.hsSuccess {s : State} {bs : List PastBurst} (h : LogShapeOf s bs) : LogShapeOf (hsSuccess s) bs :=
  ⟨h.current, h.past, nofun, h.log, h.abandoned⟩

theorem LogShapeOf.hsAnswer {s : State} {bs : List PastBurst} (h : LogShapeOf s bs) (r : ReadAnswer) :
    LogShapeOf (hsAnswer r s) bs := by
  rcases hsAnswer_cases r s with ⟨_, _, _, _, hread⟩ | hfail
  · rw [hread]
    exact h.of_unread rfl
  · rw [hfail]
    exact h.of_unread rfl

theorem LogShapeOf.readDone {s : State} {bs : List PastBurst} (h : LogShapeOf s bs) : LogShapeOf (readDone s) bs := by
  rw [readDone_eq]
  exact h.of_unread rfl

theorem LogShapeOf.hsStep {s : State} {bs : List PastBurst} (h : LogShapeOf s bs) (hu : s.uninit = true)
    (hbusy : s.busy = false) : LogShapeOf (hsStep s) bs := by
  rcases hsStep_cases s with ⟨-, hreq⟩ | ⟨-, -, -, hsucc⟩ | ⟨-, -, -, htime⟩ | ⟨-, -, -, hread⟩
  · rw [hreq]
    exact h.request hu hbusy
  · rw [hsucc]
    exact h.hsSuccess
  · rw [htime]
    exact h.of_unread rfl
  · rw [hread]
    exact h.readDone.hsAnswer _

@[simp] theorem hsAnswer_busy (r : ReadAnswer) (s : State) : (hsAnswer r s).busy = s.busy := by
  rcases hsAnswer_cases r s with ⟨_, _, _, _, hread⟩ | hfail
  · rw [hread]
  · rw [hfail]
    rfl

@[simp] theorem requestFrame_busy (F : Frame) (s : State) : (requestFrame F s).busy = s.busy := by
  cases hw : s.writeAnswer with
  | ok => rw [requestFrame_ok hw]; rfl
  | transportError => rw [requestFrame_error hw]; rfl
  | never => rw [requestFrame_never hw]

@[simp] theorem hsStep_busy (s : State) : (hsStep s).busy = s.busy := by
  rcases hsStep_cases s with ⟨-, hreq⟩ | ⟨-, -, -, hsucc⟩ | ⟨-, -, -, htime⟩ | ⟨-, -, -, hread⟩
  · rw [hreq, requestFrame_busy]
  · rw [hsucc, hsSuccess_busy]
  · rw [htime, hsFail_busy]
  · rw [hread, hsAnswer_busy, readDone_busy]

theorem LogShapeOf.hsRun {s : State} {bs : List PastBurst} (h : LogShapeOf s bs) (hbusy : s.busy = false) (k : Nat) :
    LogShapeOf (hsRun k s) bs :=
  (hsRun_induct (P := fun t => LogShapeOf t bs ∧ t.busy = false)
    (fun t hu ⟨ht, hb⟩ => ⟨ht.hsStep hu hb, (hsStep_busy t).trans hb⟩) k s ⟨h, hbusy⟩).1

/-! #### Steps -/

/-- What a request of the port decodes to: a SET, INIT or POLL. -/
theorem decode_port_cases {q : PortWord} {i : Instr} (h : decode (.port q) = .ok i) :
    (∃ e a, i = Instr.ofEffect e a) ∨ i = .init ∨ i = .poll := by
  cases q with
  | cmd w =>
    simp only [decode, decodeCmd] at h
    split at h
    · cases h
      exact .inl ⟨_, _, rfl⟩
    · cases h
  | init => cases h; exact .inr (.inl rfl)
  | poll => cases h; exact .inr (.inr rfl)

/-- A served request begins no past burst. -/
theorem LogShapeOf.served {s t : State} {bs : List PastBurst} {q : PortWord} {i : Instr} (h : LogShapeOf s bs)
    (hbusy : s.busy = false) (hq : decode (.port q) = .ok i) (hx : exec i s = .next t) : LogShapeOf t bs := by
  obtain ⟨e, a, rfl⟩ | rfl | rfl := decode_port_cases hq
  · cases (exec_ofEffect e a s).symm.trans hx
    exact h.issueCode _ a
  · change execInit s = .next t at hx
    cases hx
    split
    · exact h.hsRun hbusy _
    · exact h
  · change execPoll s = .next t at hx
    cases hx
    split
    · cases s.readAnswer <;> exact h.readDone.of_unread rfl
    · exact h

/-- Settles O55: EMIT extends the burst in progress or ends it; every other step keeps the past bursts, and none is in progress. -/
theorem stepKeepsLogShape : Obligations.StepKeepsLogShape := by
  intro s t bs hinv h hx
  rcases step_cases s with
    ⟨hbusy, hemit⟩ | ⟨hbusy, hrun, hhs⟩ | ⟨hbusy, -, hidle | ⟨q, qs, -, ⟨i, hq, hserved⟩ | ⟨w, -, hreserved⟩⟩⟩
  · obtain ⟨hidle, -⟩ | ⟨F, hF, rfl⟩ := exec_emit_next (hemit.symm.trans hx)
    · exact absurd (hidle.symm.trans hbusy) Bool.false_ne_true
    · exact h.emitFrame hbusy (hinv.burst_init hbusy) (currentFrame_eq_some.mp hF).2
  all_goals
    refine ⟨bs, ?_, .inl ⟨rfl, fun hb => absurd (hbusy.symm.trans hb) Bool.false_ne_true⟩⟩
  · cases hhs.symm.trans hx
    exact h.hsStep (hsRunning_iff.mp hrun).1 hbusy
  · cases hidle.symm.trans hx
    exact h
  · exact LogShapeOf.served (s := { s with port := qs }) (h.of_unread rfl) hbusy hq (hserved.symm.trans hx)
  · cases hreserved.symm.trans hx
    exact LogShapeOf.issueCode (s := { s with port := qs }) (h.of_unread rfl) _ _

end Sys2Proof.Machine

/-! ### O57: which operation writes which flag -/

namespace Sys2Proof.Machine

/-- The four flags of the handshake are the same in both states. -/
structure SameHsFlags (s t : State) : Prop where
  fwack  : t.fwack = s.fwack
  ltack  : t.ltack = s.ltack
  init   : t.init = s.init
  hsfail : t.hsfail = s.hsfail

theorem SameHsFlags.rfl {s : State} : SameHsFlags s s := ⟨Eq.refl _, Eq.refl _, Eq.refl _, Eq.refl _⟩

/-- A SET writes `BUSY` alone, and only to 1. -/
theorem issueCode_flags (eff : BitVec 6) (a : CmdArgs) (s : State) :
    SameHsFlags s (issueCode eff a s) ∧ ((issueCode eff a s).busy ≠ s.busy → (issueCode eff a s).busy = true) := by
  cases hr : s.ready with
  | false => rw [issueCode_held hr]; exact ⟨.rfl, fun h => absurd rfl h⟩
  | true =>
    rw [issueCode_ready hr]
    cases build s.cfg.raw a.ch eff a.n.toNat a.col a.spd with
    | error x => exact ⟨⟨rfl, rfl, rfl, rfl⟩, fun h => absurd rfl h⟩
    | ok fl => exact ⟨⟨rfl, rfl, rfl, rfl⟩, fun _ => rfl⟩

/-- An `emit` writes `BUSY` alone, and only to 0. -/
theorem emitFrame_flags (F : Frame) (s : State) :
    SameHsFlags s (emitFrame F s) ∧ ((emitFrame F s).busy ≠ s.busy → (emitFrame F s).busy = false) := by
  cases hw : s.writeAnswer with
  | ok =>
    rw [emitFrame_ok hw]
    refine ⟨⟨by simp, by simp, by simp, by simp⟩, fun h => ?_⟩
    cases hb : s.busy <;> simp_all [advance_busy]
  | transportError => rw [emitFrame_error hw]; exact ⟨⟨rfl, rfl, rfl, rfl⟩, fun _ => rfl⟩
  | never => rw [emitFrame_never hw]; exact ⟨.rfl, fun h => absurd rfl h⟩

theorem sendFrame_flags (F : Frame) (s : State) :
    SameHsFlags s (sendFrame F s) ∧ ((sendFrame F s).busy ≠ s.busy → (sendFrame F s).busy = false) := by
  unfold sendFrame
  split
  · exact emitFrame_flags F s
  · exact ⟨.rfl, fun h => absurd rfl h⟩

/-- What the write of a request may do to the flags: `HSFAIL` becomes 1 where the write fails. -/
structure RequestFlags (s t : State) : Prop where
  fwack  : t.fwack = s.fwack
  ltack  : t.ltack = s.ltack
  init   : t.init = s.init
  busy   : t.busy = s.busy
  hsfail : t.hsfail ≠ s.hsfail → t.hsfail = true ∧ s.writeAnswer = .transportError ∧ t.err = .transportError

theorem RequestFlags.rfl {s : State} : RequestFlags s s :=
  ⟨Eq.refl _, Eq.refl _, Eq.refl _, Eq.refl _, fun h => absurd (Eq.refl _) h⟩

theorem requestFrame_flags (F : Frame) (s : State) : RequestFlags s (requestFrame F s) := by
  cases hw : s.writeAnswer with
  | ok => rw [requestFrame_ok hw]; exact ⟨rfl, rfl, rfl, rfl, fun h => absurd rfl h⟩
  | transportError => rw [requestFrame_error hw]; exact ⟨rfl, rfl, rfl, rfl, fun _ => ⟨rfl, hw, rfl⟩⟩
  | never => rw [requestFrame_never hw]; exact .rfl

theorem sendRequest_flags (k : Nat) (F : Frame) (s : State) : RequestFlags s (sendRequest k F s) := by
  unfold sendRequest
  split
  · exact requestFrame_flags F s
  · exact .rfl

/-- What a read of the handshake's loop, answered `r`, may do to the flags: an acknowledgement is set by a frame with its tag,
`HSFAIL` by a read that fails. -/
structure ReadFlags (r : ReadAnswer) (s t : State) : Prop where
  fwack  : t.fwack ≠ s.fwack → t.fwack = true ∧ ∃ F, r = .frame F ∧ F.tag = (0x11, 0x01)
  ltack  : t.ltack ≠ s.ltack → t.ltack = true ∧ ∃ F, r = .frame F ∧ F.tag = (0x21, 0x03)
  init   : t.init = s.init
  busy   : t.busy = s.busy
  hsfail : t.hsfail ≠ s.hsfail → t.hsfail = true ∧ r = .transportError ∧ t.err = .transportError

theorem ReadFlags.rfl {r : ReadAnswer} {s : State} : ReadFlags r s s :=
  ⟨fun h => absurd (Eq.refl _) h, fun h => absurd (Eq.refl _) h, Eq.refl _, Eq.refl _, fun h => absurd (Eq.refl _) h⟩

theorem hsFrame_flags {s : State} (hw : Memory.wf s.rxf = true) (F : Frame) : ReadFlags (.frame F) s (hsFrame F s) := by
  by_cases hfw : F.tag = (0x11, 0x01)
  · rw [hsFrame_fwinfo hw hfw]
    exact ⟨fun _ => ⟨rfl, F, rfl, hfw⟩, fun h => absurd rfl h, rfl, rfl, fun h => absurd rfl h⟩
  by_cases hlt : F.tag = (0x21, 0x03)
  · rw [hsFrame_ltinfo hw hlt]
    exact ⟨fun h => absurd rfl h, fun _ => ⟨rfl, F, rfl, hlt⟩, rfl, rfl, fun h => absurd rfl h⟩
  · rw [hsFrame_other hw hfw hlt]
    exact ⟨fun h => absurd rfl h, fun h => absurd rfl h, rfl, rfl, fun h => absurd rfl h⟩

theorem hsAnswer_flags {s : State} (hw : Memory.wf s.rxf = true) (r : ReadAnswer) : ReadFlags r s (hsAnswer r s) := by
  cases r with
  | timeout => exact ⟨fun h => absurd rfl h, fun h => absurd rfl h, rfl, rfl, fun h => absurd rfl h⟩
  | transportError => exact ⟨fun h => absurd rfl h, fun h => absurd rfl h, rfl, rfl, fun _ => ⟨rfl, rfl, rfl⟩⟩
  | frame F =>
    have h := hsFrame_flags (s := { s with hscnt := s.hscnt + 1 }) hw F
    exact ⟨h.fwack, h.ltack, h.init, h.busy, h.hsfail⟩

theorem hsReceive_flags {s : State} (hw : Memory.wf s.rxf = true) (F : Frame) :
    ReadFlags (.frame F) s (hsReceive F s) := by
  unfold hsReceive
  split
  · exact hsAnswer_flags hw _
  · exact .rfl

/-- Taking the answer of a read writes no flag. -/
theorem hsAnswer_readDone_flags {s : State} (hw : Memory.wf s.rxf = true) (r : ReadAnswer) :
    ReadFlags r s (hsAnswer r (readDone s)) := by
  have h := hsAnswer_flags (s := readDone s) (by simpa using hw) r
  exact ⟨by simpa using h.fwack, by simpa using h.ltack, by simp [h.init], by simp,
    by simpa using h.hsfail⟩

/-- Handshake flags are only ever raised, and `BUSY` stays: what a whole handshake does to the flags. -/
structure FlagsRaised (s t : State) : Prop where
  fwack  : s.fwack = true → t.fwack = true
  ltack  : s.ltack = true → t.ltack = true
  init   : s.init = true → t.init = true
  hsfail : s.hsfail = true → t.hsfail = true
  busy   : t.busy = s.busy

theorem FlagsRaised.rfl {s : State} : FlagsRaised s s := ⟨id, id, id, id, Eq.refl _⟩

theorem FlagsRaised.trans {s t u : State} (h : FlagsRaised s t) (h' : FlagsRaised t u) : FlagsRaised s u :=
  ⟨h'.fwack ∘ h.fwack, h'.ltack ∘ h.ltack, h'.init ∘ h.init, h'.hsfail ∘ h.hsfail, h'.busy.trans h.busy⟩

theorem hsAnswer_raised (r : ReadAnswer) (s : State) : FlagsRaised s (hsAnswer r s) := by
  cases r with
  | timeout => exact ⟨id, id, id, id, rfl⟩
  | transportError => exact ⟨id, id, id, fun _ => rfl, rfl⟩
  | frame F =>
    simp only [hsAnswer, hsFrame]
    split_ifs
    · exact ⟨fun _ => rfl, id, id, id, rfl⟩
    · exact ⟨id, fun _ => rfl, id, id, rfl⟩
    · exact ⟨id, id, id, id, rfl⟩

theorem requestFrame_raised (F : Frame) (s : State) : FlagsRaised s (requestFrame F s) := by
  cases hw : s.writeAnswer with
  | ok => rw [requestFrame_ok hw]; exact ⟨id, id, id, id, rfl⟩
  | transportError => rw [requestFrame_error hw]; exact ⟨id, id, id, fun _ => rfl, rfl⟩
  | never => rw [requestFrame_never hw]; exact .rfl

theorem hsStep_raised (s : State) : FlagsRaised s (hsStep s) := by
  rcases hsStep_cases s with ⟨-, hreq⟩ | ⟨-, -, -, hsucc⟩ | ⟨-, -, -, htime⟩ | ⟨-, -, -, hread⟩
  · rw [hreq]
    exact requestFrame_raised _ s
  · rw [hsucc]
    exact ⟨id, id, fun _ => rfl, id, rfl⟩
  · rw [htime]
    exact ⟨id, id, id, fun _ => rfl, rfl⟩
  · rw [hread]
    exact FlagsRaised.trans ⟨by simp, by simp, by simp, by simp, by simp⟩ (hsAnswer_raised _ _)

theorem hsRun_raised (k : Nat) (s : State) : FlagsRaised s (hsRun k s) :=
  hsRun_induct (P := FlagsRaised s) (fun t _ ht => ht.trans (hsStep_raised t)) k s .rfl

/-- A flag that is only ever raised and has changed is 1. -/
theorem eq_true_of_raised {b b' : Bool} (h : b = true → b' = true) (hne : b' ≠ b) : b' = true := by
  cases b with
  | false => simpa using hne
  | true => exact h rfl

/-- The flags an instruction may write, by its kind (R24). -/
def InstrFlags (i : Instr) (s t : State) : Prop :=
  (t.fwack ≠ s.fwack → t.fwack = true ∧ (i = .init ∨ ∃ F, i = .fwinfo F)) ∧
  (t.ltack ≠ s.ltack → t.ltack = true ∧ (i = .init ∨ ∃ F, i = .ltinfo F)) ∧
  (t.init ≠ s.init → t.init = true ∧ i = .init) ∧
  (t.hsfail ≠ s.hsfail → t.hsfail = true ∧ (i = .init ∨ ∃ k F, encode i = .request k F)) ∧
  (t.busy ≠ s.busy → t.busy = true ∧ (∃ e a, i = Instr.ofEffect e a) ∨
    t.busy = false ∧ (i = .emit ∨ ∃ F, encode i = .sent F))

/-- An instruction that leaves the handshake's flags writes at most `BUSY`. -/
theorem SameHsFlags.instrFlags {i : Instr} {s t : State} (h : SameHsFlags s t)
    (hbusy : t.busy ≠ s.busy → t.busy = true ∧ (∃ e a, i = Instr.ofEffect e a) ∨
      t.busy = false ∧ (i = .emit ∨ ∃ F, encode i = .sent F)) : InstrFlags i s t :=
  ⟨fun hne => absurd h.fwack hne, fun hne => absurd h.ltack hne, fun hne => absurd h.init hne,
    fun hne => absurd h.hsfail hne, hbusy⟩

/-- A well-formed acknowledgement is the instruction of its tag (R84, R85). -/
theorem instr_of_tag {i : Instr} {F : Frame} (hi : encode i = .handshake F) (hwf : i.wellFormed = true) :
    (F.tag = (0x11, 0x01) → i = .fwinfo F) ∧ (F.tag = (0x21, 0x03) → i = .ltinfo F) := by
  cases i
  case fwinfo G =>
    cases hi
    simp only [Instr.wellFormed, decide_eq_true_eq] at hwf
    simp [hwf]
  case ltinfo G =>
    cases hi
    simp only [Instr.wellFormed, decide_eq_true_eq] at hwf
    simp [hwf]
  all_goals cases hi

theorem exec_flags {i : Instr} {s t : State} (hwf : i.wellFormed = true) (hm : Memory.wf s.rxf = true)
    (hx : exec i s = .next t) : InstrFlags i s t := by
  rcases exec_cases i s with
    ⟨e, a, hi, hset⟩ | ⟨F, hi, hsent⟩ | ⟨k, F, hi, hreq⟩ | ⟨F, hi, hack⟩ | ⟨F, -, hstatus⟩ | ⟨hi, hinit⟩ | ⟨-, hpoll⟩ | hi
  · cases hset.symm.trans hx
    obtain ⟨hsame, hbusy⟩ := issueCode_flags e.code a s
    exact hsame.instrFlags fun hne => .inl ⟨hbusy hne, e, a, hi⟩
  · cases hsent.symm.trans hx
    obtain ⟨hsame, hbusy⟩ := sendFrame_flags F s
    exact hsame.instrFlags fun hne => .inr ⟨hbusy hne, .inr ⟨F, hi⟩⟩
  · cases hreq.symm.trans hx
    have h := sendRequest_flags k.toNat F s
    exact ⟨fun hne => absurd h.fwack hne, fun hne => absurd h.ltack hne, fun hne => absurd h.init hne,
      fun hne => ⟨(h.hsfail hne).1, .inr ⟨k, F, hi⟩⟩, fun hne => absurd h.busy hne⟩
  · cases hack.symm.trans hx
    obtain ⟨hfw, hlt⟩ := instr_of_tag hi hwf
    have h := hsReceive_flags hm F
    refine ⟨fun hne => ?_, fun hne => ?_, fun hne => absurd h.init hne, fun hne => ?_, fun hne => absurd h.busy hne⟩
    · obtain ⟨htrue, G, hG, htag⟩ := h.fwack hne
      cases hG
      exact ⟨htrue, .inr ⟨F, hfw htag⟩⟩
    · obtain ⟨htrue, G, hG, htag⟩ := h.ltack hne
      cases hG
      exact ⟨htrue, .inr ⟨F, hlt htag⟩⟩
    · obtain ⟨-, hr, -⟩ := h.hsfail hne
      cases hr
  · cases hstatus.symm.trans hx
    split <;> exact SameHsFlags.instrFlags ⟨rfl, rfl, rfl, rfl⟩ fun hne => absurd rfl hne
  · cases hinit.symm.trans hx
    have h : FlagsRaised s (if s.initEnabled then hsRun (hsMoves s.cfg.raw) s else s) := by
      split
      · exact hsRun_raised _ s
      · exact .rfl
    exact ⟨fun hne => ⟨eq_true_of_raised h.fwack hne, .inl hi⟩, fun hne => ⟨eq_true_of_raised h.ltack hne, .inl hi⟩,
      fun hne => ⟨eq_true_of_raised h.init hne, hi⟩, fun hne => ⟨eq_true_of_raised h.hsfail hne, .inl hi⟩,
      fun hne => absurd h.busy hne⟩
  · cases hpoll.symm.trans hx
    split
    · refine SameHsFlags.instrFlags ?_ fun hne => ?_
      · cases s.readAnswer <;> exact ⟨readDone_fwack s, readDone_ltack s, readDone_init s, readDone_hsfail s⟩
      · exact absurd (by cases s.readAnswer <;> exact readDone_busy s) hne
    · exact SameHsFlags.rfl.instrFlags fun hne => absurd rfl hne
  · subst hi
    obtain ⟨-, rfl⟩ | ⟨F, -, rfl⟩ := exec_emit_next hx
    · exact SameHsFlags.rfl.instrFlags fun hne => absurd rfl hne
    · obtain ⟨hsame, hbusy⟩ := emitFrame_flags F s
      exact hsame.instrFlags fun hne => .inr ⟨hbusy hne, .inl rfl⟩

/-- The flags a move of an unfinished handshake may write (R24). -/
def HsMoveFlags (s t : State) : Prop :=
  (t.fwack ≠ s.fwack → t.fwack = true ∧ s.hsReading = true ∧ ∃ F, s.readAnswer = .frame F ∧ F.tag = (0x11, 0x01)) ∧
  (t.ltack ≠ s.ltack → t.ltack = true ∧ s.hsReading = true ∧ ∃ F, s.readAnswer = .frame F ∧ F.tag = (0x21, 0x03)) ∧
  (t.init ≠ s.init → t.init = true ∧ s.fwack = true ∧ s.ltack = true) ∧
  (t.hsfail ≠ s.hsfail → t.hsfail = true ∧
    (s.hsSent < 4 ∧ s.writeAnswer = .transportError ∧ t.err = .transportError ∨
      s.hsReading = true ∧ s.readAnswer = .transportError ∧ t.err = .transportError ∨
      (s.fwack = false ∨ s.ltack = false) ∧ s.hscnt = s.cfg.raw.hsMaxReads ∧ t.err = .handshakeTimeout)) ∧
  t.busy = s.busy

theorem hsStep_flags {s : State} (hinv : s.Inv) (hu : s.uninit = true) : HsMoveFlags s (hsStep s) := by
  have hle := hinv.sent_bound
  rcases hsStep_cases s with
    ⟨hlt, hreq⟩ | ⟨-, hfw, hlt, hsucc⟩ | ⟨-, hmiss, hceil, htime⟩ | ⟨h4, hmiss, hceil, hread⟩
  · rw [hreq]
    have h := requestFrame_flags (hsReq s.cfg.raw s.hsSent) s
    exact ⟨fun hne => absurd h.fwack hne, fun hne => absurd h.ltack hne, fun hne => absurd h.init hne,
      fun hne => ⟨(h.hsfail hne).1, .inl ⟨hlt, (h.hsfail hne).2⟩⟩, h.busy⟩
  · rw [hsucc]
    exact ⟨fun hne => absurd rfl hne, fun hne => absurd rfl hne, fun _ => ⟨rfl, hfw, hlt⟩, fun hne => absurd rfl hne, rfl⟩
  · rw [htime]
    exact ⟨fun hne => absurd rfl hne, fun hne => absurd rfl hne, fun hne => absurd rfl hne,
      fun _ => ⟨rfl, .inr (.inr ⟨hmiss, hceil, rfl⟩)⟩, rfl⟩
  · rw [hread]
    have hreading : s.hsReading = true := hsReading_iff.mpr ⟨hu, le_antisymm hle h4, hmiss, hceil⟩
    have h := hsAnswer_readDone_flags hinv.rxf_wf s.readAnswer
    exact ⟨fun hne => ⟨(h.fwack hne).1, hreading, (h.fwack hne).2⟩,
      fun hne => ⟨(h.ltack hne).1, hreading, (h.ltack hne).2⟩,
      fun hne => absurd h.init hne, fun hne => ⟨(h.hsfail hne).1, .inr (.inl ⟨hreading, (h.hsfail hne).2⟩)⟩, h.busy⟩

/-- An unfinished handshake that has begun makes its next move. -/
theorem step_hsRunning {s : State} (hbusy : s.busy = false) (hrun : s.hsRunning = true) : step s = .next (hsStep s) := by
  simp [step, hbusy, hrun]

/-- Settles O57: the flags each kind of instruction writes, and those a move of the handshake writes. -/
theorem flagsAreWrittenOnlyByTheirSteps : Obligations.FlagsAreWrittenOnlyByTheirSteps := by
  refine ⟨fun i s t hwf hm hx => exec_flags hwf hm hx, fun s t hinv hbusy hrun hx => ?_⟩
  cases (step_hsRunning hbusy hrun).symm.trans hx
  exact hsStep_flags hinv (hsRunning_iff.mp hrun).1

end Sys2Proof.Machine

/-! ### O45 to O51, O60: steps, waiting requests, operating states, sessions, the error port -/

namespace Sys2Proof.Machine

theorem step_busy {s : State} (hbusy : s.busy = true) : step s = exec .emit s := by
  simp [step, hbusy]

/-- Outside a burst and a handshake a step serves the first enabled request. -/
theorem step_serves {s : State} {before after : List PortWord} {q : PortWord} (hbusy : s.busy = false)
    (hrun : s.hsRunning = false) (hport : s.port = before ++ q :: after) (hheld : ∀ p ∈ before, s.enabled p = false)
    (hq : s.enabled q = true) : step s = runRequest q { s with port := before ++ after } := by
  simp [step, hbusy, hrun, fetch, hport, firstEnabled_append hheld hq]

/-- Where no request is enabled a step waits. -/
theorem step_waits {s : State} (hbusy : s.busy = false) (hrun : s.hsRunning = false)
    (hheld : ∀ p ∈ s.port, s.enabled p = false) : step s = .next s := by
  simp [step, hbusy, hrun, fetch, firstEnabled_none hheld]

/-- Settles O45: the three branches of a step. -/
theorem stepRunsDecodedInstruction : Obligations.StepRunsDecodedInstruction := by
  refine fun s => ⟨step_busy, step_hsRunning, fun before after q i hbusy hrun hport hheld hq hdec => ?_⟩
  rw [step_serves hbusy hrun hport hheld hq]
  simp [runRequest, hdec]

@[simp] theorem emitFrame_port (F : Frame) (s : State) : (emitFrame F s).port = s.port := by
  cases hw : s.writeAnswer with
  | ok => rw [emitFrame_ok hw, advance_port, wrote_port]
  | transportError => rw [emitFrame_error hw]; rfl
  | never => rw [emitFrame_never hw]

@[simp] theorem requestFrame_port (F : Frame) (s : State) : (requestFrame F s).port = s.port := by
  cases hw : s.writeAnswer with
  | ok => rw [requestFrame_ok hw]; rfl
  | transportError => rw [requestFrame_error hw]; rfl
  | never => rw [requestFrame_never hw]

@[simp] theorem hsAnswer_port (r : ReadAnswer) (s : State) : (hsAnswer r s).port = s.port := by
  rcases hsAnswer_cases r s with ⟨_, _, _, _, hread⟩ | hfail
  · rw [hread]
  · rw [hfail]
    rfl

@[simp] theorem hsStep_port (s : State) : (hsStep s).port = s.port := by
  rcases hsStep_cases s with ⟨-, hreq⟩ | ⟨-, -, -, hsucc⟩ | ⟨-, -, -, htime⟩ | ⟨-, -, -, hread⟩
  · rw [hreq, requestFrame_port]
  · rw [hsucc, hsSuccess_port]
  · rw [htime, hsFail_port]
  · rw [hread, hsAnswer_port, readDone_port]

/-- Settles O46: a waiting step fetches nothing; EMIT and a move of the handshake leave the port. -/
theorem heldRequestsWait : Obligations.HeldRequestsWait := by
  refine fun s => ⟨step_waits, fun t hgoing hx => ?_⟩
  cases hbusy : s.busy with
  | true =>
    obtain ⟨-, rfl⟩ | ⟨F, -, rfl⟩ := exec_emit_next ((step_busy hbusy).symm.trans hx)
    · rfl
    · exact emitFrame_port F s
  | false =>
    have hrun : s.hsRunning = true := by simpa [hbusy] using hgoing
    cases (step_hsRunning hbusy hrun).symm.trans hx
    exact hsStep_port s

/-- A block that is not ready and cannot begin the handshake enables no request. -/
theorem enabled_eq_false {s : State} (hready : s.ready = false) (hinit : s.initEnabled = false) (p : PortWord) :
    s.enabled p = false := by
  cases p with
  | cmd w => exact hready
  | init => exact hinit
  | poll => exact hready

theorem initEnabled_eq_false {s : State} (h : s.uninit = false) : s.initEnabled = false := by
  simp [State.initEnabled, h]

/-- The operating states in terms of the flags (R222). -/
theorem opState_uninit_iff {s : State} : s.opState = .uninit ↔ s.hsfail = false ∧ s.init = false := by
  unfold State.opState
  split_ifs <;> simp_all

theorem opState_ready_iff {s : State} : s.opState = .ready ↔ s.hsfail = false ∧ s.init = true ∧ s.busy = false := by
  unfold State.opState
  split_ifs <;> simp_all

theorem opState_burst_iff {s : State} : s.opState = .burst ↔ s.hsfail = false ∧ s.init = true ∧ s.busy = true := by
  unfold State.opState
  split_ifs <;> simp_all

theorem opState_dead_iff {s : State} : s.opState = .dead ↔ s.hsfail = true := by
  unfold State.opState
  split_ifs <;> simp_all

theorem ready_of_hsfail {s : State} (h : s.hsfail = true) : s.ready = false := by simp [State.ready, h]

theorem uninit_of_hsfail {s : State} (h : s.hsfail = true) : s.uninit = false := by simp [State.uninit, h]

theorem uninit_of_init {s : State} (h : s.init = true) : s.uninit = false := by simp [State.uninit, h]

/-- Settles O47: the flags of each operating state decide what is enabled. -/
theorem operatingStatesEnable : Obligations.OperatingStatesEnable := by
  intro s _
  refine ⟨fun h => ?_, fun h => ?_, fun h => ?_, fun h => ?_⟩
  · obtain ⟨hfail, hinit⟩ := opState_uninit_iff.mp h
    have hready : s.ready = false := by simp [State.ready, hinit]
    refine ⟨hready, fun _ => hready, initEnabled_iff.trans ?_⟩
    simp [uninit_iff, hinit, hfail]
  · obtain ⟨hfail, hinit, hbusy⟩ := opState_ready_iff.mp h
    have hready : s.ready = true := ready_iff.mpr ⟨hinit, hbusy, hfail⟩
    exact ⟨hready, fun _ => hready, initEnabled_eq_false (uninit_of_init hinit)⟩
  · obtain ⟨-, hinit, hbusy⟩ := opState_burst_iff.mp h
    exact enabled_eq_false (by simp [State.ready, hbusy]) (initEnabled_eq_false (uninit_of_init hinit))
  · have hfail := opState_dead_iff.mp h
    exact enabled_eq_false (ready_of_hsfail hfail) (initEnabled_eq_false (uninit_of_hsfail hfail))

/-- DEAD: no burst is in progress, no handshake runs and nothing is enabled. -/
theorem step_of_hsfail {s : State} (hinv : s.Inv) (hfail : s.hsfail = true) : step s = .next s := by
  have hbusy : s.busy = false := by
    by_contra hb
    obtain ⟨-, -, -, hok⟩ := hinv.init_acks (hinv.burst_init (by simpa using hb))
    exact absurd (hok.symm.trans hfail) Bool.false_ne_true
  have hu := uninit_of_hsfail hfail
  exact step_waits hbusy (by simp [State.hsRunning, hu])
    fun p _ => enabled_eq_false (ready_of_hsfail hfail) (initEnabled_eq_false hu) p

/-- A run makes one step after another as long as they answer next. -/
theorem run_succ {s t : State} (h : step s = .next t) (k : Nat) :
    Host.Core.run Sys2Proof.core (k + 1) s = Host.Core.run Sys2Proof.core k t := by
  have hstep : Sys2Proof.core.step s = .next t := h
  simp only [Host.Core.run, hstep]

/-- Settles O48: by induction on the number of steps. -/
theorem deadStaysDead : Obligations.DeadStaysDead := by
  intro s hinv hfail k
  induction k with
  | zero => rfl
  | succ k ih => exact (run_succ (step_of_hsfail hinv hfail) k).trans ih

/-- Settles O49: the reset state is written out, and the device's configuration has the decided fields at their defaults. -/
theorem resetState : Obligations.ResetState :=
  ⟨rfl, rfl, rfl, rfl, rfl, rfl, rfl, rfl, rfl, rfl, rfl⟩

/-- A state with an idle, empty block has the invariant. -/
theorem reset_inv : State.reset.Inv :=
  ⟨rfl, rfl, nofun, nofun, nofun, nofun, Nat.zero_le _, Nat.zero_le _, fun _ => ⟨rfl, rfl, rfl⟩, Nat.zero_le _⟩

theorem reset_logShape : LogShapeOf State.reset [] :=
  ⟨nofun, by simp, fun _ => rfl, rfl, le_refl 0⟩

/-- Settles O51: nothing is sent, no burst is in progress and the handshake has not begun. -/
theorem resetSatisfiesTheInvariants : Obligations.ResetSatisfiesTheInvariants :=
  ⟨reset_inv, ⟨[], reset_logShape⟩, List.Sublist.slnil⟩

theorem newSession_inv (s : State) (rxBuf : List Frame) (rxArr : List ReadAnswer) (txAns : List WriteAnswer) :
    (newSession s rxBuf rxArr txAns).Inv :=
  ⟨rfl, rfl, nofun, nofun, nofun, nofun, Nat.zero_le _, Nat.zero_le _, fun _ => ⟨rfl, rfl, rfl⟩, Nat.zero_le _⟩

theorem newSession_logShape (s : State) (rxBuf : List Frame) (rxArr : List ReadAnswer) (txAns : List WriteAnswer) :
    LogShapeOf (newSession s rxBuf rxArr txAns) [] :=
  ⟨nofun, by simp, fun _ => rfl, rfl, le_refl (s.txN + 1)⟩

/-- An answer of the script of writes comes before the free values. -/
theorem nthWrite_scripted {s : State} {k : Nat} (h : k < s.txAns.length) : some (s.nthWrite k) = s.txAns[k]? := by
  simp [State.nthWrite, h]

/-- A frame already received comes first. -/
theorem nthRead_buffered {s : State} {k : Nat} (h : k < s.rxBuf.length) :
    (s.rxBuf[k]?).map ReadAnswer.frame = some (s.nthRead k) := by
  simp [State.nthRead, h]

/-- The script of reads follows the frames already received. -/
theorem nthRead_scripted {s : State} {k : Nat} (h : k < s.rxArr.length) :
    some (s.nthRead (s.rxBuf.length + k)) = s.rxArr[k]? := by
  simp [State.nthRead, h]

/-- Settles O50: the new session's fields are written out, its log is empty and its scripts are the given ones. -/
theorem newSessionIsAReset : Obligations.NewSessionIsAReset := by
  rintro s t rxBuf rxArr txAns rfl
  exact ⟨rfl, rfl, rfl, rfl, rfl, rfl, rfl, rfl, rfl, rfl, rfl, newSession_inv s rxBuf rxArr txAns,
    ⟨[], newSession_logShape s rxBuf rxArr txAns⟩, List.nil_sublist _,
    fun _ hk => nthWrite_scripted (s := newSession s rxBuf rxArr txAns) hk,
    fun _ hk => nthRead_buffered (s := newSession s rxBuf rxArr txAns) hk,
    fun _ hk => nthRead_scripted (s := newSession s rxBuf rxArr txAns) hk⟩

/-- Settles O60: the table of the port's numbers, row by row. -/
theorem errorCodes : Obligations.ErrorCodes :=
  ⟨rfl, fun _ _ _ => rfl, fun _ _ _ => rfl, fun _ _ _ => rfl, fun _ => rfl, fun _ _ => rfl, fun _ _ => rfl, rfl, rfl, rfl⟩

end Sys2Proof.Machine

/-! ### O25 to O30: EMIT, the frames of a burst, and what is not enabled -/

namespace Sys2Proof.Machine

/-- Settles O25: each instruction that is not enabled takes the branch that leaves the state. -/
theorem notEnabledChangesNothing : Obligations.NotEnabledChangesNothing := by
  refine fun s => ⟨fun hready => ⟨fun e a => ?_, ?_, fun F => ?_⟩, fun hinit => ?_, fun hbusy => ?_, fun i F hi hF => ?_,
    fun i k F hi hturn => ?_, fun hreading i F hi => ?_⟩
  · rw [exec_ofEffect, issueCode_held hready]
  · change execPoll s = _
    simp [execPoll, hready]
  · change execStatus F s = _
    simp [execStatus, hready]
  · change execInit s = _
    simp [execInit, hinit]
  · change execEmit s = _
    simp [execEmit, hbusy]
  · rw [exec_of_encode_sent hi, sendFrame, if_neg hF]
  · rw [exec_of_encode_request hi, sendRequest, if_neg]
    simp only [Bool.and_eq_true, decide_eq_true_eq]
    rintro ⟨⟨hu, hk⟩, hF⟩
    rcases hturn with h | h | h
    · exact absurd (h.symm.trans hu) Bool.false_ne_true
    · exact h hk
    · exact h hF
  · rw [exec_of_encode_handshake hi]
    simp [hsReceive, hreading]

/-- With `BUSY = 1` EMIT is the `emit` of frame `FL[FI]`. -/
theorem exec_emit_of_frame {s : State} {F : Frame} (hbusy : s.busy = true) (hF : s.fl[s.fi]? = some F) :
    exec .emit s = .next (emitFrame F s) := by
  change execEmit s = _
  simp [execEmit, hbusy, hF]

/-- A frame kind that stands for the current frame is its `emit`. -/
theorem exec_sent_of_currentFrame {s : State} {i : Instr} {F : Frame} (hi : encode i = .sent F)
    (hF : s.currentFrame = some F) : exec i s = .next (emitFrame F s) := by
  rw [exec_of_encode_sent hi, sendFrame, if_pos hF]

/-- The completion of an `emit` in one record. -/
theorem emitFrame_ok_eq {s : State} {F : Frame} (hbusy : s.busy = true) (hF : s.fl[s.fi]? = some F)
    (hw : s.writeAnswer = .ok) :
    emitFrame F s =
      { s with
        txf := memLoad s.txf F
        txlog := s.txlog ++ [F]
        devRx := s.devRx ++ [F]
        txAns := s.txAns.tail
        txN := s.txN + 1
        fi := s.fi + 1
        busy := decide (s.fi + 1 < s.fl.length)
        devHavoc := s.devHavoc && decide (s.fi + 1 < s.fl.length) } := by
  obtain ⟨hi, -⟩ := List.getElem?_eq_some_iff.mp hF
  rw [emitFrame_ok hw, advance_eq (s := wrote F s) hbusy hi]
  rfl

/-- An abandoned burst in one record. -/
theorem emitFrame_error_eq {s : State} (F : Frame) (hw : s.writeAnswer = .transportError) :
    emitFrame F s =
      { s with
        txf := memLoad s.txf F
        devRx := s.devRx ++ if Config.failedWriteReached s.txN then [F] else []
        txAns := s.txAns.tail
        txN := s.txN + 1
        busy := false
        err := .transportError
        devHavoc := true } := by
  rw [emitFrame_error hw]
  rfl

/-- Settles O26: EMIT is the `emit` of the current frame, and the write succeeded. -/
theorem emitSendsTheCurrentFrame : Obligations.EmitSendsTheCurrentFrame := by
  intro s F hbusy hF hw
  rw [exec_emit_of_frame hbusy hF, emitFrame_ok_eq hbusy hF hw]

/-- Settles O27: EMIT is the `emit` of the current frame, and the write failed. -/
theorem emitFailureAbandonsTheBurst : Obligations.EmitFailureAbandonsTheBurst := by
  intro s F hbusy hF hw
  rw [exec_emit_of_frame hbusy hF, emitFrame_error_eq F hw]

/-- Settles O28: the one fault, and the write that does not return. -/
theorem emitWithoutAFrameOrAnAnswer : Obligations.EmitWithoutAFrameOrAnAnswer := by
  refine fun s hbusy => ⟨fun hF => ?_, fun F hF hw => ?_⟩
  · change execEmit s = _
    simp [execEmit, hbusy, hF]
  · rw [exec_emit_of_frame hbusy hF, emitFrame_never hw]

/-- Settles O29: a frame kind is the `emit` of its frame, by the three answers of a write. -/
theorem burstFrameKindsAreSent : Obligations.BurstFrameKindsAreSent := by
  intro s i F hi hcur
  obtain ⟨hbusy, hF⟩ := currentFrame_eq_some.mp hcur
  rw [exec_sent_of_currentFrame hi hcur]
  exact ⟨fun hw => by rw [emitFrame_ok_eq hbusy hF hw], fun hw => by rw [emitFrame_error_eq F hw],
    fun hw => by rw [emitFrame_never hw]⟩

/-- Where frames are left to send and the transport takes the next one, a step sends it. -/
theorem step_emits {s : State} {F : Frame} (hbusy : s.busy = true) (hF : s.fl[s.fi]? = some F) (hw : s.nthWrite 0 = .ok) :
    step s = .next (advance (wrote F s)) := by
  rw [step_busy hbusy, exec_emit_of_frame hbusy hF, emitFrame_ok ((writeAnswer_eq s).trans hw)]

/-- The first frame left is `FL[FI]`. -/
theorem getElem?_of_drop_eq_cons {fl rest : List Frame} {k : Nat} {F : Frame} (h : fl.drop k = F :: rest) :
    fl[k]? = some F ∧ fl.drop (k + 1) = rest := by
  constructor
  · rw [← Nat.add_zero k, ← List.getElem?_drop, h, List.getElem?_cons_zero]
  · rw [← List.drop_drop, h, List.drop_one, List.tail_cons]

/-- The frames left are sent one step after another, by induction on their list. -/
theorem run_burst {left : List Frame} : ∀ {s : State}, s.busy = true → s.fl.drop s.fi = left → left ≠ [] →
    (∀ k < left.length, s.nthWrite k = .ok) →
    Host.Core.run Sys2Proof.core left.length s = .next
      { s.afterWrites left with fi := s.fl.length, busy := false, devHavoc := false } := by
  induction left with
  | nil => exact fun _ _ hne => absurd rfl hne
  | cons F rest ih =>
    intro s hbusy hdrop _ hw
    obtain ⟨hF, hrest⟩ := getElem?_of_drop_eq_cons hdrop
    rw [List.length_cons, run_succ (step_emits hbusy hF (hw 0 (by simp)))]
    have hlen : s.fl.length = s.fi + 1 + rest.length := by
      have := congrArg List.length hdrop
      rw [List.length_drop, List.length_cons] at this
      omega
    cases rest with
    | nil =>
      have hlast : (wrote F s).fi + 1 = (wrote F s).fl.length := by simpa using hlen.symm
      rw [advance, if_pos hlast]
      simp only [List.length_nil, Host.Core.run, State.afterWrites, wrote_fi, wrote_fl] at hlast ⊢
      simp [wrote, hlast]
    | cons G rest' =>
      have hmore : (wrote F s).fi + 1 ≠ (wrote F s).fl.length := by
        rw [List.length_cons] at hlen
        simp only [wrote_fi, wrote_fl]
        omega
      have hadv : advance (wrote F s) = { wrote F s with fi := s.fi + 1 } := by
        rw [advance, if_neg hmore]
        rfl
      rw [hadv, ih (s := { wrote F s with fi := s.fi + 1 }) hbusy hrest (by simp)]
      · simp [State.afterWrites, wrote, Nat.add_comm, Nat.add_left_comm]
      · intro k hk
        rw [nthWrite_succ (s := s) rfl rfl]
        exact hw (k + 1) (by simpa using hk)

/-- Settles O30: by induction on the frames left. -/
theorem burstSendsItsFramesInOrder : Obligations.BurstSendsItsFramesInOrder := by
  rintro s left hbusy rfl hne hw
  exact run_burst hbusy rfl hne hw

end Sys2Proof.Machine

/-! ### O31 to O35: DEC and the frame buffers -/

namespace Sys2Proof.Machine

/-- A poll is one read and what its answer does. -/
theorem exec_poll_ready {s : State} (hready : s.ready = true) :
    exec .poll s = .next (pollAnswer (s.nthRead 0) (s.afterReads 1)) := by
  change execPoll s = _
  rw [execPoll, if_pos hready, readAnswer_eq, readDone_eq]

/-- What DEC makes of a received frame, in one record. -/
theorem takeStatus_eq {s : State} (hm : Memory.wf s.rxf = true) (F : Frame) :
    takeStatus F s =
      { s with
        rxf := memLoad s.rxf F
        status :=
          { temp10 := 10 * (F.get s.cfg.raw.stTemp).toNat + (F.get (s.cfg.raw.stTemp + 1)).toNat
            rpm := BitVec.ofNat 16 ((F.get s.cfg.raw.stRpm).toNat + 256 * (F.get (s.cfg.raw.stRpm + 1)).toNat)
            duty := F.get s.cfg.raw.stDuty }
        err := .none } := by
  rw [← decodeStatus_memLoad s.cfg hm F]
  rfl

/-- Settles O31: the read answers a frame, which DEC decodes. -/
theorem pollDecodesTheFrame : Obligations.PollDecodesTheFrame := by
  intro s F hready hm hF
  rw [exec_poll_ready hready, hF, pollAnswer, takeStatus_eq (s := s.afterReads 1) hm]
  rfl

/-- Settles O32: the read answers no frame. -/
theorem pollWithoutAFrame : Obligations.PollWithoutAFrame := by
  intro s hready
  rw [exec_poll_ready hready]
  exact ⟨fun h => by rw [h]; rfl, fun h => by rw [h]; rfl⟩

/-- Settles O33: a STATUS frame is decoded as POLL decodes one. -/
theorem statusFrameDecodes : Obligations.StatusFrameDecodes := by
  intro s F hready hm
  change execStatus F s = _
  rw [execStatus, if_pos hready, takeStatus_eq hm]

/-- Settles O34: the decoded record is made of the five bytes. -/
theorem decodeReadsFiveBytes : Obligations.DecodeReadsFiveBytes := by
  intro c m m' F G hm hm' h
  simp only [List.forall_mem_cons] at h
  obtain ⟨h1, h2, h3, h4, h5, -⟩ := h
  rw [decodeStatus_memLoad c hm, decodeStatus_memLoad c hm', h1, h2, h3, h4, h5]

/-- A loaded buffer is the same whatever it held: canonical buffers are equal if they read the same. -/
theorem memLoad_eq {m m' : Memory} (hm : Memory.wf m = true) (hm' : Memory.wf m' = true) (F : Frame) :
    memLoad m F = memLoad m' F := by
  refine Memory.ext_read (memLoad_wf F hm) (memLoad_wf F hm') fun a => ?_
  by_cases ha : a < 64
  · rw [memRead_memLoad F hm ha, memRead_memLoad F hm' ha]
  · rw [memRead_ge (memLoad_wf F hm) (by omega), memRead_ge (memLoad_wf F hm') (by omega)]

/-- Settles O35: the laws of the frame buffers. -/
theorem frameBufferHoldsTheFrame : Obligations.FrameBufferHoldsTheFrame :=
  fun _ _ F hm hm' => ⟨memLoad_wf F hm, fun _ ha => memRead_memLoad F hm ha, memLoad_eq hm hm' F⟩

end Sys2Proof.Machine

/-! ### O42 to O44: the frames of the handshake, one at a time -/

namespace Sys2Proof.Machine

/-- A request in its turn, with the configured frame, is written. -/
theorem exec_request_in_turn {s : State} {i : Instr} {k : BitVec 2} {F : Frame} (hi : encode i = .request k F)
    (hu : s.uninit = true) (hsent : s.hsSent = k.toNat) (hF : F = hsReq s.cfg.raw k.toNat) :
    exec i s = .next (requestFrame F s) := by
  rw [exec_of_encode_request hi, sendRequest, if_pos]
  simp [hu, hsent, hF]

/-- Settles O42: a request in its turn, by the three answers of a write. -/
theorem requestFramesAreWritten : Obligations.RequestFramesAreWritten := by
  intro s i k F hi hu hsent hF
  rw [exec_request_in_turn hi hu hsent hF]
  exact ⟨fun hw => by rw [requestFrame_ok hw]; rfl, fun hw => by rw [requestFrame_error hw]; rfl,
    fun hw => by rw [requestFrame_never hw]⟩

/-- A frame the read loop is about to read is answered to it. -/
theorem exec_handshake_reading {s : State} {i : Instr} {F : Frame} (hi : encode i = .handshake F)
    (hr : s.hsReading = true) : exec i s = .next (hsFrame F { s with hscnt := s.hscnt + 1 }) := by
  rw [exec_of_encode_handshake hi, hsReceive, if_pos hr]
  rfl

/-- Settles O43: a frame with the firmware tag. -/
theorem fwinfoAcknowledges : Obligations.FwinfoAcknowledges := by
  intro s F hwf hr hm
  rw [exec_handshake_reading rfl hr, hsFrame_fwinfo (s := { s with hscnt := s.hscnt + 1 }) hm (of_decide_eq_true hwf)]

/-- Settles O44: a frame with the lighting tag. -/
theorem ltinfoAcknowledges : Obligations.LtinfoAcknowledges := by
  intro s F hwf hr hm
  rw [exec_handshake_reading rfl hr, hsFrame_ltinfo (s := { s with hscnt := s.hscnt + 1 }) hm (of_decide_eq_true hwf)]

end Sys2Proof.Machine

/-! ### The four requests of a handshake -/

namespace Sys2Proof.Machine

/-- An enabled INIT runs the handshake. -/
theorem exec_init_enabled {s : State} (h : s.initEnabled = true) :
    exec .init s = .next (hsRun (4 + s.cfg.raw.hsMaxReads + 1) s) := by
  change execInit s = _
  rw [execInit, if_pos h]
  rfl

/-- `s` after the first `k` requests of the handshake, each taken by the transport. -/
def State.afterRequests (s : State) (k : Nat) : State :=
  { s.afterWrites ((requests s.cfg.raw).take k) with hsSent := k }

theorem requests_getElem? (c : RawCfg) {k : Nat} (hk : k < 4) : (requests c)[k]? = some (hsReq c k) := by
  interval_cases k <;> rfl

theorem requests_take_length (c : RawCfg) {k : Nat} (hk : k ≤ 4) : ((requests c).take k).length = k := by
  rw [List.length_take]
  exact Nat.min_eq_left hk

/-- The answers to the writes move up by the writes made. -/
theorem nthWrite_afterRequests (s : State) {k : Nat} (hk : k ≤ 4) (j : Nat) :
    (s.afterRequests k).nthWrite j = s.nthWrite (k + j) := by
  simp [State.nthWrite, State.afterRequests, State.afterWrites, requests_take_length s.cfg.raw hk, Nat.add_assoc]

/-- One write more after a list of them. -/
theorem wrote_afterWrites (s : State) (Fs : List Frame) (F : Frame) :
    wrote F (s.afterWrites Fs) = s.afterWrites (Fs ++ [F]) := by
  simp [wrote, State.afterWrites, Nat.add_assoc]

theorem afterRequests_zero {s : State} (h : s.hsSent = 0) : s.afterRequests 0 = s := by
  cases s
  simp_all [State.afterRequests, State.afterWrites]

@[simp] theorem afterRequests_uninit (s : State) (k : Nat) : (s.afterRequests k).uninit = s.uninit := rfl

/-- Request `k` in its turn. -/
theorem hsStep_afterRequests (s : State) {k : Nat} (hk : k < 4) :
    hsStep (s.afterRequests k) = requestFrame (hsReq s.cfg.raw k) (s.afterRequests k) :=
  hsStep_request hk

theorem writeAnswer_afterRequests (s : State) {k : Nat} (hk : k ≤ 4) :
    (s.afterRequests k).writeAnswer = s.nthWrite k := by
  rw [writeAnswer_eq, nthWrite_afterRequests s hk, Nat.add_zero]

/-- Request `k` taken by the transport. -/
theorem hsStep_request_ok {s : State} {k : Nat} (hk : k < 4) (hw : s.nthWrite k = .ok) :
    hsStep (s.afterRequests k) = s.afterRequests (k + 1) := by
  have hw' : (s.afterRequests k).writeAnswer = .ok := (writeAnswer_afterRequests s hk.le).trans hw
  have hwrote := wrote_afterWrites s ((requests s.cfg.raw).take k) (hsReq s.cfg.raw k)
  rw [← take_succ_of_getElem? (requests_getElem? s.cfg.raw hk)] at hwrote
  rw [hsStep_afterRequests s hk, requestFrame_ok hw']
  unfold State.afterRequests
  rw [← hwrote]
  rfl

/-- The first `k` requests, taken by the transport, are the first `k` moves of a handshake. -/
theorem hsRun_requests {s : State} (hu : s.uninit = true) (hsent : s.hsSent = 0) (m : Nat) {k : Nat} (hk : k ≤ 4)
    (hw : ∀ j < k, s.nthWrite j = .ok) : hsRun (k + m) s = hsRun m (s.afterRequests k) := by
  induction k generalizing m with
  | zero => rw [afterRequests_zero hsent, Nat.zero_add]
  | succ k ih =>
    rw [Nat.add_assoc, Nat.add_comm 1 m, ih (m + 1) (by omega) fun j hj => hw j (by omega), hsRun_succ (by simpa using hu),
      hsStep_request_ok (by omega) (hw k (by omega))]

/-- A run goes on after the requests, if the transport takes all four. -/
theorem exec_init_requests {s : State} (h : s.initEnabled = true) (hw : ∀ k < 4, s.nthWrite k = .ok) :
    exec .init s = .next (hsRun (s.cfg.raw.hsMaxReads + 1) (s.afterRequests 4)) := by
  obtain ⟨hu, -, hsent⟩ := initEnabled_iff.mp h
  rw [exec_init_enabled h, Nat.add_assoc, hsRun_requests hu hsent _ (le_refl 4) hw]

/-- A run goes on with request `k`, if the transport takes those before it. -/
theorem exec_init_request {s : State} (h : s.initEnabled = true) {k : Nat} (hk : k < 4)
    (hw : ∀ j < k, s.nthWrite j = .ok) :
    ∃ m, exec .init s = .next (hsRun m (hsStep (s.afterRequests k))) := by
  obtain ⟨hu, -, hsent⟩ := initEnabled_iff.mp h
  refine ⟨4 + s.cfg.raw.hsMaxReads - k, ?_⟩
  rw [exec_init_enabled h, show 4 + s.cfg.raw.hsMaxReads + 1 = k + (4 + s.cfg.raw.hsMaxReads - k + 1) by omega,
    hsRun_requests hu hsent _ hk.le hw, hsRun_succ (by simpa using hu)]

/-- Settles O39: the failing write of request `k` ends the handshake. -/
theorem initWriteFails : Obligations.InitWriteFails := by
  intro s k hinit _ _ hk hw hfail
  obtain ⟨m, hrun⟩ := exec_init_request hinit hk hw
  have hw' : (s.afterRequests k).writeAnswer = .transportError := (writeAnswer_afterRequests s hk.le).trans hfail
  rw [hrun, hsStep_afterRequests s hk, requestFrame_error hw', hsRun_ended (by simp [State.uninit])]
  simp [hsFail, raise, writeFailed, State.afterRequests, State.afterWrites, requests_take_length s.cfg.raw hk.le,
    Nat.add_assoc]

/-- A move that changes nothing is repeated without end. -/
theorem hsRun_of_hsStep_eq {s : State} (h : hsStep s = s) (m : Nat) : hsRun m s = s :=
  hsRun_induct (P := (· = s)) (fun _ _ ht => by rw [ht, h]) m s rfl

/-- A write that never returns leaves the handshake at its request. -/
theorem exec_init_never {s : State} (h : s.initEnabled = true) {k : Nat} (hk : k < 4)
    (hw : ∀ j < k, s.nthWrite j = .ok) (hnever : s.nthWrite k = .never) :
    exec .init s = .next (s.afterRequests k) := by
  obtain ⟨m, hrun⟩ := exec_init_request h hk hw
  have hw' : (s.afterRequests k).writeAnswer = .never := (writeAnswer_afterRequests s hk.le).trans hnever
  have hstay : hsStep (s.afterRequests k) = s.afterRequests k := by
    rw [hsStep_afterRequests s hk, requestFrame_never hw']
  rw [hrun, hstay, hsRun_of_hsStep_eq hstay]

end Sys2Proof.Machine

/-! ### The read loop of a handshake -/

namespace Sys2Proof.Machine

theorem firstReads_succ (s : State) (k : Nat) : s.firstReads (k + 1) = s.firstReads k ++ [s.nthRead k] := by
  simp [State.firstReads, List.range_succ]

/-- A tag that comes in none of the first reads is not among them. -/
theorem sawTag_firstReads_eq_false {s : State} {tag : Byte × Byte} {k : Nat} (h : ∀ i < k, lacksTag (s.nthRead i) tag) :
    sawTag tag (s.firstReads k) = false := by
  simp only [sawTag, List.any_eq_false, State.firstReads, List.mem_map, List.mem_range]
  rintro r ⟨i, hi, rfl⟩
  cases hr : s.nthRead i with
  | timeout => simp [answerHasTag]
  | transportError => simp [answerHasTag]
  | frame F => simpa [answerHasTag] using h i hi F hr

theorem sawTag_firstReads_eq_true {s : State} {tag : Byte × Byte} {k i : Nat} {F : Frame} (hi : i < k)
    (hF : s.nthRead i = .frame F) (ht : F.tag = tag) : sawTag tag (s.firstReads k) = true := by
  simp only [sawTag, List.any_eq_true, State.firstReads, List.mem_map, List.mem_range]
  exact ⟨_, ⟨i, hi, rfl⟩, by simp [hF, answerHasTag, ht]⟩

@[simp] theorem sawTag_append (tag : Byte × Byte) (rs : List ReadAnswer) (r : ReadAnswer) :
    sawTag tag (rs ++ [r]) = (sawTag tag rs || answerHasTag tag r) := by
  simp [sawTag]

theorem versionAfter_append (c : RawCfg) (v : FwVer) (rs : List ReadAnswer) (r : ReadAnswer) :
    versionAfter c v (rs ++ [r]) = versionAfter c (versionAfter c v rs) [r] := by
  induction rs generalizing v with
  | nil => rfl
  | cons q qs ih => cases q <;> simp only [List.cons_append, versionAfter] <;> exact ih _

theorem bufferAfter_append (m : Memory) (rs : List ReadAnswer) (r : ReadAnswer) :
    bufferAfter m (rs ++ [r]) = bufferAfter (bufferAfter m rs) [r] := by
  induction rs generalizing m with
  | nil => rfl
  | cons q qs ih => cases q <;> simp only [List.cons_append, bufferAfter] <;> exact ih _

theorem bufferAfter_wf {m : Memory} (hm : Memory.wf m = true) (rs : List ReadAnswer) :
    Memory.wf (bufferAfter m rs) = true := by
  induction rs generalizing m with
  | nil => exact hm
  | cons q qs ih =>
    cases q with
    | timeout => exact ih hm
    | transportError => exact ih hm
    | frame F => exact ih (memLoad_wf F hm)

/-- One read more after `k` of them. -/
theorem afterReads_succ (s : State) (k : Nat) : (s.afterReads k).afterReads 1 = s.afterReads (k + 1) := by
  have hdrop : k - s.rxBuf.length + (1 - (s.rxBuf.length - k)) = k + 1 - s.rxBuf.length := by omega
  simp [State.afterReads, hdrop, Nat.add_assoc]

/-- `s` after `k` turns of the read loop, none of which failed or ended it. -/
def State.afterReplies (s : State) (k : Nat) : State :=
  { s.afterReads k with
    hscnt := s.hscnt + k
    fwack := s.fwack || sawTag (0x11, 0x01) (s.firstReads k)
    ltack := s.ltack || sawTag (0x21, 0x03) (s.firstReads k)
    fwver := versionAfter s.cfg.raw s.fwver (s.firstReads k)
    rxf := bufferAfter s.rxf (s.firstReads k) }

theorem afterReplies_zero (s : State) : s.afterReplies 0 = s := by
  cases s
  simp [State.afterReplies, State.afterReads, State.firstReads, sawTag, versionAfter, bufferAfter]

@[simp] theorem afterReplies_uninit (s : State) (k : Nat) : (s.afterReplies k).uninit = s.uninit := rfl

theorem readAnswer_afterReplies (s : State) (k : Nat) : (s.afterReplies k).readAnswer = s.nthRead k := by
  have hnth : (s.afterReplies k).nthRead 0 = (s.afterReads k).nthRead 0 := nthRead_congr rfl rfl rfl 0
  rw [readAnswer_eq, hnth, nthRead_afterReads, Nat.add_zero]

/-- The read of turn `k`, before its answer is looked at. -/
theorem readDone_afterReplies (s : State) (k : Nat) :
    readDone (s.afterReplies k) =
      { s.afterReads (k + 1) with
        hscnt := (s.afterReplies k).hscnt, fwack := (s.afterReplies k).fwack, ltack := (s.afterReplies k).ltack
        fwver := (s.afterReplies k).fwver, rxf := (s.afterReplies k).rxf } := by
  rw [readDone_eq, ← afterReads_succ s k]
  rfl

theorem fwTag_ne_ltTag {F : Frame} (h : F.tag = (0x11, 0x01)) : F.tag ≠ (0x21, 0x03) := by
  rw [h]
  decide

/-- What an answer that is no failure writes, said once for a timeout and for a frame of any tag (R198 to R200). -/
theorem hsAnswer_of_ne_error {s : State} (hm : Memory.wf s.rxf = true) {r : ReadAnswer} (hr : r ≠ .transportError) :
    hsAnswer r s =
      { s with
        hscnt := s.hscnt + 1
        fwack := s.fwack || answerHasTag (0x11, 0x01) r
        ltack := s.ltack || answerHasTag (0x21, 0x03) r
        fwver := versionAfter s.cfg.raw s.fwver [r]
        rxf := bufferAfter s.rxf [r] } := by
  cases r with
  | transportError => exact absurd rfl hr
  | timeout => simp [hsAnswer, answerHasTag, versionAfter, bufferAfter]
  | frame F =>
    have hm' : Memory.wf ({ s with hscnt := s.hscnt + 1 } : State).rxf = true := hm
    rw [hsAnswer, versionAfter, versionAfter, bufferAfter, bufferAfter, answerHasTag, answerHasTag]
    by_cases hfw : F.tag = (0x11, 0x01)
    · rw [hsFrame_fwinfo hm' hfw, if_pos hfw, decide_eq_true hfw, decide_eq_false (fwTag_ne_ltTag hfw), Bool.or_true,
        Bool.or_false]
      rfl
    · rw [if_neg hfw, decide_eq_false hfw, Bool.or_false]
      by_cases hlt : F.tag = (0x21, 0x03)
      · rw [hsFrame_ltinfo hm' hlt, decide_eq_true hlt, Bool.or_true]
      · rw [hsFrame_other hm' hfw hlt, decide_eq_false hlt, Bool.or_false]

/-- Turn `k` of the loop, if its read does not fail. -/
theorem hsAnswer_afterReplies {s : State} (hm : Memory.wf s.rxf = true) {k : Nat} (hr : s.nthRead k ≠ .transportError) :
    hsAnswer (s.nthRead k) (readDone (s.afterReplies k)) = s.afterReplies (k + 1) := by
  have hm' : Memory.wf (readDone (s.afterReplies k)).rxf = true := by
    rw [readDone_rxf]
    exact bufferAfter_wf hm _
  rw [hsAnswer_of_ne_error hm' hr, readDone_afterReplies]
  unfold State.afterReplies
  rw [firstReads_succ, sawTag_append, sawTag_append, versionAfter_append, bufferAfter_append, ← Bool.or_assoc,
    ← Bool.or_assoc]
  rfl

/-- The state of a handshake that is about to make its first read: nothing read, nothing acknowledged. -/
structure AtFirstRead (s : State) : Prop where
  uninit : s.uninit = true
  sent   : s.hsSent = 4
  reads  : s.hscnt = 0
  fwack  : s.fwack = false
  ltack  : s.ltack = false
  rxf_wf : Memory.wf s.rxf = true

theorem atFirstRead_afterRequests {s : State} (h : s.initEnabled = true) (hfw : s.fwack = false) (hlt : s.ltack = false)
    (hm : Memory.wf s.rxf = true) : AtFirstRead (s.afterRequests 4) := by
  obtain ⟨hu, hcnt, -⟩ := initEnabled_iff.mp h
  exact ⟨hu, rfl, hcnt, hfw, hlt, hm⟩

/-- One of the two acknowledgements is in none of the first `k` reads. -/
def OneTagMissing (s : State) (k : Nat) : Prop :=
  (∀ i < k, lacksTag (s.nthRead i) (0x21, 0x03)) ∨ ∀ i < k, lacksTag (s.nthRead i) (0x11, 0x01)

theorem OneTagMissing.of_le {s : State} {j k : Nat} (h : OneTagMissing s k) (hjk : j ≤ k) : OneTagMissing s j :=
  h.imp (fun hk i hi => hk i (by omega)) (fun hk i hi => hk i (by omega))

theorem AtFirstRead.one_flag_clear {s : State} (h : AtFirstRead s) {k : Nat} (hmiss : OneTagMissing s k) :
    (s.afterReplies k).fwack = false ∨ (s.afterReplies k).ltack = false := by
  rcases hmiss with hlt | hfw
  · exact .inr (Bool.or_eq_false_iff.mpr ⟨h.ltack, sawTag_firstReads_eq_false hlt⟩)
  · exact .inl (Bool.or_eq_false_iff.mpr ⟨h.fwack, sawTag_firstReads_eq_false hfw⟩)

/-- Turn `k` of the loop reads, below the ceiling and with an acknowledgement missing. -/
theorem AtFirstRead.hsStep {s : State} (h : AtFirstRead s) {k : Nat} (hk : k < s.cfg.raw.hsMaxReads)
    (hmiss : OneTagMissing s k) :
    hsStep (s.afterReplies k) = hsAnswer (s.nthRead k) (readDone (s.afterReplies k)) := by
  have hceil : (s.afterReplies k).hscnt ≠ (s.afterReplies k).cfg.raw.hsMaxReads := by
    simp only [State.afterReplies, State.afterReads, h.reads]
    omega
  rw [hsStep_read (s := s.afterReplies k) h.sent (h.one_flag_clear hmiss) hceil, readAnswer_afterReplies]

theorem AtFirstRead.hsStep_reply {s : State} (h : AtFirstRead s) {k : Nat} (hk : k < s.cfg.raw.hsMaxReads)
    (hmiss : OneTagMissing s k) (hr : s.nthRead k ≠ .transportError) :
    Machine.hsStep (s.afterReplies k) = s.afterReplies (k + 1) := by
  rw [h.hsStep hk hmiss, hsAnswer_afterReplies h.rxf_wf hr]

/-- The first `k` turns of the loop, if no read fails and an acknowledgement is missing. -/
theorem AtFirstRead.hsRun {s : State} (h : AtFirstRead s) (m : Nat) {k : Nat} (hk : k ≤ s.cfg.raw.hsMaxReads)
    (hmiss : OneTagMissing s k) (hr : ∀ i < k, s.nthRead i ≠ .transportError) :
    hsRun (k + m) s = Machine.hsRun m (s.afterReplies k) := by
  induction k generalizing m with
  | zero => rw [afterReplies_zero, Nat.zero_add]
  | succ k ih =>
    have hmiss' := hmiss.of_le (Nat.le_succ k)
    rw [Nat.add_assoc, Nat.add_comm 1 m, ih (m + 1) (by omega) hmiss' fun i hi => hr i (by omega),
      hsRun_succ (by simpa using h.uninit), h.hsStep_reply hk hmiss' (hr k (by omega))]

/-- Settles O38: the reads are used up with an acknowledgement missing. -/
theorem initTimesOut : Obligations.InitTimesOut := by
  rintro s hinit hfw hlt hm hw hr hmiss rs rfl
  refine ⟨?_, sawTag_firstReads_eq_false, sawTag_firstReads_eq_false⟩
  have h := atFirstRead_afterRequests hinit hfw hlt hm
  rw [exec_init_requests hinit hw, h.hsRun 1 (le_refl s.cfg.raw.hsMaxReads) hmiss hr,
    hsRun_succ (by simpa using h.uninit),
    hsStep_ceiling (s := (s.afterRequests 4).afterReplies s.cfg.raw.hsMaxReads) rfl (h.one_flag_clear hmiss)
      (by simp [State.afterReplies, h.reads]; rfl)]
  simp only [Machine.hsRun, hsFail, raise, State.afterReplies, h.reads, h.fwack, h.ltack, Bool.false_or, Nat.zero_add]
  rfl

/-- Settles O40: read `k` fails with an acknowledgement missing. -/
theorem initReadFails : Obligations.InitReadFails := by
  rintro s k hinit hfw hlt hm hw hk hfail hr hmiss rs rfl
  refine ⟨?_, sawTag_firstReads_eq_false, sawTag_firstReads_eq_false⟩
  have h := atFirstRead_afterRequests hinit hfw hlt hm
  have hstep : hsStep ((s.afterRequests 4).afterReplies k)
      = hsFail .transportError
          { readDone ((s.afterRequests 4).afterReplies k) with hscnt := 0 + k + 1 } := by
    rw [h.hsStep hk hmiss, show (s.afterRequests 4).nthRead k = .transportError from hfail, hsAnswer, readDone_hscnt,
      ← h.reads]
    rfl
  rw [exec_init_requests hinit hw,
    show s.cfg.raw.hsMaxReads + 1 = k + (s.cfg.raw.hsMaxReads - k + 1) by omega, h.hsRun _ hk.le hmiss hr,
    hsRun_succ (by simpa using h.uninit), hstep, hsRun_ended (by simp [State.uninit]), readDone_afterReplies]
  simp only [hsFail, raise, State.afterReplies, h.fwack, h.ltack, Bool.false_or, Nat.zero_add]
  rfl

/-- The version after reads that brought the firmware tag is that of the latest frame with it. -/
theorem versionAfter_latest (c : RawCfg) (v : FwVer) {s : State} {n j : Nat} {F : Frame} (hj : j < n)
    (hF : s.nthRead j = .frame F) (ht : F.tag = (0x11, 0x01)) :
    ∃ (i : Nat) (A : Frame), i < n ∧ s.nthRead i = .frame A ∧ A.tag = (0x11, 0x01) ∧
      (∀ l, i < l → l < n → lacksTag (s.nthRead l) (0x11, 0x01)) ∧
      versionAfter c v (s.firstReads n) = versionIn c A := by
  induction n with
  | zero => omega
  | succ n ih =>
    rw [firstReads_succ, versionAfter_append]
    by_cases hn : lacksTag (s.nthRead n) (0x11, 0x01)
    · have hjn : j < n := by
        refine Nat.lt_of_le_of_ne (Nat.le_of_lt_succ hj) fun he => ?_
        exact hn F (he ▸ hF) ht
      obtain ⟨i, A, hi, hA, htA, hlater, hv⟩ := ih hjn
      refine ⟨i, A, by omega, hA, htA, fun l hl hln => ?_, ?_⟩
      · rcases Nat.lt_succ_iff_lt_or_eq.mp hln with h | rfl
        · exact hlater l hl h
        · exact hn
      · rw [hv]
        cases hr : s.nthRead n with
        | timeout => rfl
        | transportError => rfl
        | frame G => rw [versionAfter, versionAfter, if_neg (hn G hr)]
    · simp only [lacksTag, ne_eq, not_forall, not_not] at hn
      obtain ⟨A, hA, htA⟩ := hn
      exact ⟨n, A, by omega, hA, htA, fun l hl hln => by omega, by simp [hA, versionAfter, htA]⟩

/-- The buffer after reads of which the last brought frame `G` holds `G`. -/
theorem bufferAfter_last {s : State} (hm : Memory.wf s.rxf = true) {k : Nat} {G : Frame} (hG : s.nthRead k = .frame G) :
    bufferAfter s.rxf (s.firstReads (k + 1)) = memLoad s.rxf G := by
  rw [firstReads_succ, hG, bufferAfter_append]
  exact memLoad_eq (bufferAfter_wf hm _) hm G

/-- A frame with the tag is among the first `n` reads. -/
def TagComes (s : State) (n : Nat) (tag : Byte × Byte) : Prop := ∃ i F, i < n ∧ s.nthRead i = .frame F ∧ F.tag = tag

theorem TagComes.sawTag {s : State} {n : Nat} {tag : Byte × Byte} (h : TagComes s n tag) :
    sawTag tag (s.firstReads n) = true := by
  obtain ⟨i, F, hi, hF, ht⟩ := h
  exact sawTag_firstReads_eq_true hi hF ht

/-- The loop reads up to the acknowledgement still missing, as read `k`, and its next turn succeeds. -/
theorem AtFirstRead.hsRun_success {s : State} (h : AtFirstRead s) {k : Nat} (hk : k < s.cfg.raw.hsMaxReads)
    (hmiss : OneTagMissing s k) (hr : ∀ i < k + 1, s.nthRead i ≠ .transportError) (hfw : TagComes s (k + 1) (0x11, 0x01))
    (hlt : TagComes s (k + 1) (0x21, 0x03)) :
    Machine.hsRun (s.cfg.raw.hsMaxReads + 1) s = hsSuccess (s.afterReplies (k + 1)) := by
  have hsucc : Machine.hsStep (s.afterReplies (k + 1)) = hsSuccess (s.afterReplies (k + 1)) :=
    hsStep_success h.sent (Bool.or_eq_true_iff.mpr (.inr hfw.sawTag)) (Bool.or_eq_true_iff.mpr (.inr hlt.sawTag))
  rw [show s.cfg.raw.hsMaxReads + 1 = k + (s.cfg.raw.hsMaxReads - k - 1 + 1 + 1) by omega,
    h.hsRun _ hk.le hmiss fun i hi => hr i (by omega), hsRun_succ (by simpa using h.uninit),
    h.hsStep_reply hk hmiss (hr k (by omega)), hsRun_succ (by simpa using h.uninit), hsucc,
    hsRun_ended (by simp [State.uninit])]

/-- Settles O37: the loop reads up to the missing acknowledgement, and its next turn succeeds. -/
theorem initSucceedsWhenBothAcknowledged : Obligations.InitSucceedsWhenBothAcknowledged := by
  intro s j k F G hinit hfw hlt hm hw hjk hk hr hF hG htags
  have h := atFirstRead_afterRequests hinit hfw hlt hm
  have hmiss : OneTagMissing s k := htags.imp (fun ⟨_, _, h⟩ => h) (fun ⟨_, _, h⟩ => h)
  have hboth : TagComes s (k + 1) (0x11, 0x01) ∧ TagComes s (k + 1) (0x21, 0x03) := by
    rcases htags with ⟨htF, htG, -⟩ | ⟨htF, htG, -⟩
    · exact ⟨⟨j, F, by omega, hF, htF⟩, ⟨k, G, by omega, hG, htG⟩⟩
    · exact ⟨⟨k, G, by omega, hG, htG⟩, ⟨j, F, by omega, hF, htF⟩⟩
  have hr' : ∀ i < k + 1, s.nthRead i ≠ .transportError := fun i hi => by
    rcases Nat.lt_succ_iff_lt_or_eq.mp hi with hlt | rfl
    · exact hr i hlt
    · rw [hG]
      exact nofun
  obtain ⟨hfwComes, hltComes⟩ := hboth
  obtain ⟨l, X, hl, hX, htX⟩ := hfwComes
  obtain ⟨i, A, hi, hA, htA, hlater, hv⟩ := versionAfter_latest s.cfg.raw s.fwver hl hX htX
  refine ⟨i, A, ⟨by omega, hA, htA, fun l hl hlk => hlater l hl (by omega)⟩, ?_⟩
  have hsawFw : sawTag (0x11, 0x01) (s.firstReads (k + 1)) = true := sawTag_firstReads_eq_true hl hX htX
  rw [exec_init_requests hinit hw, ← bufferAfter_last hm hG, ← hv]
  refine congrArg Host.Outcome.next ((h.hsRun_success hk hmiss hr' ⟨l, X, hl, hX, htX⟩ hltComes).trans ?_)
  have hreads : (s.afterRequests 4).firstReads = s.firstReads := rfl
  simp only [hsSuccess, raise, State.afterReplies, hreads, hsawFw, hltComes.sawTag, Bool.or_true, h.reads, Nat.zero_add]
  rfl

/-- Settles O36: the acknowledgements are reads 0 and 1, so the latest frame with the firmware tag is `A`. -/
theorem initSucceedsInTwoReads : Obligations.InitSucceedsInTwoReads := by
  intro s A B hinit hfw hlt hm hw htA htB hreads
  have hB : B.tag ≠ (0x11, 0x01) := fun h => fwTag_ne_ltTag h htB
  have hceil : 1 < s.cfg.raw.hsMaxReads := Cfg.two_reads s.cfg
  have one_read : ∀ {X : Frame} {tag : Byte × Byte}, s.nthRead 0 = .frame X → X.tag ≠ tag →
      ∀ i < 1, lacksTag (s.nthRead i) tag := by
    intro X tag hX hne i hi F hF
    obtain rfl : i = 0 := by omega
    cases hX.symm.trans hF
    exact hne
  have no_error : ∀ {X : Frame}, s.nthRead 0 = .frame X → ∀ i < 1, s.nthRead i ≠ .transportError := by
    intro X hX i hi
    obtain rfl : i = 0 := by omega
    rw [hX]
    exact nofun
  rcases hreads with ⟨h0, h1⟩ | ⟨h0, h1⟩
  · obtain ⟨i, A', ⟨hi, hA', htA', -⟩, hx⟩ := initSucceedsWhenBothAcknowledged s 0 1 A B hinit hfw hlt hm hw (by omega)
      hceil (no_error h0) h0 h1 (.inl ⟨htA, htB, one_read h0 (fwTag_ne_ltTag htA)⟩)
    have hAA : A' = A := by
      interval_cases i
      · cases h0.symm.trans hA'; rfl
      · cases h1.symm.trans hA'; exact absurd htA' hB
    exact ⟨B, h1, hAA ▸ hx⟩
  · obtain ⟨i, A', ⟨hi, hA', htA', -⟩, hx⟩ := initSucceedsWhenBothAcknowledged s 0 1 B A hinit hfw hlt hm hw (by omega)
      hceil (no_error h0) h0 h1 (.inr ⟨htB, htA, one_read h0 hB⟩)
    have hAA : A' = A := by
      interval_cases i
      · cases h0.symm.trans hA'; exact absurd htA' hB
      · cases h1.symm.trans hA'; rfl
    exact ⟨A, h1, hAA ▸ hx⟩

end Sys2Proof.Machine

/-! ### O41: INIT always ends -/

namespace Sys2Proof.Machine

/-- How a handshake ends (R201, R203, R204): in success, or in one of its two failures. -/
def HsEnded (t : State) : Prop :=
  (t.init = true ∧ t.hsfail = false ∧ t.err = .none ∧ t.fwack = true ∧ t.ltack = true) ∨
  (t.init = false ∧ t.hsfail = true ∧ (t.err = .transportError ∨ t.err = .handshakeTimeout))

/-- What holds between the state `s` in which INIT begins and every state `t` of its handshake: the counters say how many writes and
reads were made, what is no part of the handshake is as before, and a handshake that is over has ended in one of its ways. -/
structure HsProgress (s t : State) : Prop where
  cfg    : t.cfg = s.cfg
  sent   : t.hsSent ≤ 4
  reads  : t.hscnt ≤ s.cfg.raw.hsMaxReads
  rxN    : t.rxN = s.rxN + t.hscnt
  txN    : t.txN ≤ s.txN + 4
  going  : t.uninit = true → t.txAns = s.txAns.drop t.hsSent ∧ t.txN = s.txN + t.hsSent
  ended  : t.uninit = false → HsEnded t
  busy   : t.busy = s.busy
  fl     : t.fl = s.fl
  fi     : t.fi = s.fi
  latch  : t.latch = s.latch
  status : t.status = s.status
  port   : t.port = s.port

/-- The moves a handshake has left at most: requests, reads, and the turn that ends it (R206). -/
def movesLeft (s : State) : Nat := (4 - s.hsSent) + (s.cfg.raw.hsMaxReads - s.hscnt) + 1

theorem HsProgress.writeAnswer {s t : State} (h : HsProgress s t) (hu : t.uninit = true) :
    t.writeAnswer = s.nthWrite t.hsSent := by
  obtain ⟨hans, hN⟩ := h.going hu
  rw [writeAnswer_eq]
  simp [State.nthWrite, hans, hN]

/-- A state whose handshake has failed is over. -/
theorem hsEnded_of_fail {t : State} (hinit : t.init = false) (hfail : t.hsfail = true)
    (herr : t.err = .transportError ∨ t.err = .handshakeTimeout) : HsEnded t := .inr ⟨hinit, hfail, herr⟩

/-- A request that returns: one more is written, or the handshake has failed. -/
theorem HsProgress.request {s t : State} (h : HsProgress s t) (hu : t.uninit = true) (hlt : t.hsSent < 4)
    (hret : s.nthWrite t.hsSent ≠ .never) (F : Frame) :
    HsProgress s (requestFrame F t) ∧
      ((requestFrame F t).uninit = true → movesLeft (requestFrame F t) < movesLeft t) := by
  obtain ⟨hans, hN⟩ := h.going hu
  cases hw : t.writeAnswer with
  | ok =>
    rw [requestFrame_ok hw]
    refine ⟨⟨h.cfg, hlt, h.reads, h.rxN, ?_, fun _ => ⟨?_, ?_⟩, fun hend => ?_, h.busy, h.fl, h.fi, h.latch, h.status,
      h.port⟩, fun _ => ?_⟩
    · simp only [wrote_txN]; omega
    · simp [hans]
    · simp only [wrote_txN]; omega
    · exact absurd (hend.symm.trans hu) Bool.false_ne_true
    · simp only [movesLeft, wrote_cfg, wrote_hscnt]
      omega
  | transportError =>
    rw [requestFrame_error hw]
    refine ⟨⟨h.cfg, h.sent, h.reads, h.rxN, ?_, fun hgo => ?_, fun _ => ?_, h.busy, h.fl, h.fi, h.latch, h.status, h.port⟩,
      fun hgo => ?_⟩
    · simp only [hsFail_txN, writeFailed_txN]; omega
    · simp [State.uninit] at hgo
    · exact hsEnded_of_fail (uninit_iff.mp hu).1 rfl (.inl rfl)
    · simp [State.uninit] at hgo
  | never => exact absurd ((h.writeAnswer hu).symm.trans hw) hret

/-- A read of the loop: one more is made, or the handshake has failed. -/
theorem HsProgress.read {s t : State} (h : HsProgress s t) (hu : t.uninit = true) (hceil : t.hscnt ≠ t.cfg.raw.hsMaxReads)
    (r : ReadAnswer) :
    HsProgress s (hsAnswer r (readDone t)) ∧
      ((hsAnswer r (readDone t)).uninit = true → movesLeft (hsAnswer r (readDone t)) < movesLeft t) := by
  obtain ⟨hans, hN⟩ := h.going hu
  have hreads := h.reads
  have hrxN := h.rxN
  rw [h.cfg] at hceil
  rw [readDone_eq]
  rcases hsAnswer_cases r (t.afterReads 1) with ⟨v, fw, lt, m, hr⟩ | hr
  · rw [hr]
    refine ⟨⟨h.cfg, h.sent, ?_, ?_, h.txN, fun _ => ⟨hans, hN⟩, fun hend => ?_, h.busy, h.fl, h.fi, h.latch, h.status,
      h.port⟩, fun _ => ?_⟩
    · simp only [State.afterReads]; omega
    · simp only [State.afterReads]; omega
    · exact absurd (hend.symm.trans hu) Bool.false_ne_true
    · simp only [movesLeft, State.afterReads, h.cfg]
      omega
  · rw [hr]
    refine ⟨⟨h.cfg, h.sent, ?_, ?_, h.txN, fun hgo => ?_, fun _ => ?_, h.busy, h.fl, h.fi, h.latch, h.status, h.port⟩,
      fun hgo => ?_⟩
    · simp only [hsFail_hscnt, State.afterReads]; omega
    · simp only [hsFail_rxN, hsFail_hscnt, State.afterReads]; omega
    · simp [State.uninit] at hgo
    · exact hsEnded_of_fail (uninit_iff.mp hu).1 rfl (.inl rfl)
    · simp [State.uninit] at hgo

/-- A move of a handshake whose writes return: it goes on with one move fewer left, or is over. -/
theorem HsProgress.hsStep {s t : State} (h : HsProgress s t) (hu : t.uninit = true)
    (hret : ∀ k < 4, s.nthWrite k ≠ .never) :
    HsProgress s (hsStep t) ∧ ((Machine.hsStep t).uninit = true → movesLeft (Machine.hsStep t) < movesLeft t) := by
  rcases hsStep_cases t with
    ⟨hlt, hreq⟩ | ⟨-, hfw, hlt, hsucc⟩ | ⟨-, -, -, htime⟩ | ⟨-, -, hceil, hread⟩
  · rw [hreq]
    exact h.request hu hlt (hret _ hlt) _
  · rw [hsucc]
    refine ⟨⟨h.cfg, h.sent, h.reads, h.rxN, h.txN, fun hgo => ?_, fun _ => ?_, h.busy, h.fl, h.fi, h.latch, h.status, h.port⟩,
      fun hgo => ?_⟩
    · simp [State.uninit] at hgo
    · exact .inl ⟨rfl, (uninit_iff.mp hu).2, rfl, hfw, hlt⟩
    · simp [State.uninit] at hgo
  · rw [htime]
    refine ⟨⟨h.cfg, h.sent, h.reads, h.rxN, h.txN, fun hgo => ?_, fun _ => ?_, h.busy, h.fl, h.fi, h.latch, h.status, h.port⟩,
      fun hgo => ?_⟩
    · simp [State.uninit] at hgo
    · exact hsEnded_of_fail (uninit_iff.mp hu).1 rfl (.inr rfl)
    · simp [State.uninit] at hgo
  · rw [hread]
    exact h.read hu hceil _

/-- A run with at least as many moves as are left is over at its end. -/
theorem HsProgress.hsRun {s : State} (hret : ∀ k < 4, s.nthWrite k ≠ .never) (n : Nat) {t : State} (h : HsProgress s t)
    (hn : t.uninit = true → movesLeft t ≤ n) : HsProgress s (hsRun n t) ∧ (Machine.hsRun n t).uninit = false := by
  induction n generalizing t with
  | zero =>
    refine ⟨h, Bool.eq_false_iff.mpr fun hu => ?_⟩
    have : 1 ≤ movesLeft t := by simp [movesLeft]
    have := hn hu
    omega
  | succ n ih =>
    cases hu : t.uninit with
    | false =>
      rw [hsRun_ended hu]
      exact ⟨h, hu⟩
    | true =>
      obtain ⟨hnext, hless⟩ := h.hsStep hu hret
      rw [hsRun_succ hu]
      refine ih hnext fun hgo => ?_
      have := hless hgo
      have := hn hu
      omega

/-- An enabled INIT has made no progress yet. -/
theorem hsProgress_refl {s : State} (h : s.initEnabled = true) : HsProgress s s := by
  obtain ⟨hu, hcnt, hsent⟩ := initEnabled_iff.mp h
  exact ⟨rfl, by omega, by omega, by omega, by omega, fun _ => by simp [hsent],
    fun hend => absurd (hend.symm.trans hu) Bool.false_ne_true, rfl, rfl, rfl, rfl, rfl, rfl⟩

/-- Settles O41: the moves left bound the run; a write that never returns keeps it at its request. -/
theorem initAlwaysEnds : Obligations.InitAlwaysEnds := by
  refine fun s hinit _ _ => ⟨fun hret => ?_, fun k hk hw hnever => exec_init_never hinit hk hw hnever⟩
  have hmoves : movesLeft s ≤ 4 + s.cfg.raw.hsMaxReads + 1 := by
    unfold movesLeft
    omega
  obtain ⟨h, hend⟩ := (hsProgress_refl hinit).hsRun hret _ fun _ => hmoves
  have hrxN := h.rxN
  have hreads := h.reads
  exact ⟨_, exec_init_enabled hinit, h.ended hend, h.txN, by omega, h.busy, h.fl, h.fi, h.latch, h.status, h.port⟩

end Sys2Proof.Machine

/-! ### O7 to O9, O59: the tables and `build` -/

namespace Sys2Proof

/-- K3 at an effect: the bounds of a row that takes colours are in order. -/
theorem Cfg.minColors_le (c : Cfg) {e : Effect} {m : CatalogRow} (hm : c.raw.row e = some m) (h0 : m.maxColors.toNat ≠ 0) :
    m.minColors.toNat ≤ m.maxColors.toNat := by
  have h := c.passes .k3
  simp only [RawCfg.passes, List.all_eq_true, Bool.or_eq_true, decide_eq_true_eq] at h
  exact (h m (List.mem_of_getElem? hm)).resolve_right h0

/-- A row of a well-formed configuration has a timing entry at each valid level. -/
theorem Cfg.row_timing_exists (c : Cfg) {e : Effect} {m : CatalogRow} (hm : c.raw.row e = some m) {s : BitVec 3}
    (hs : s.toNat ≤ 4) : ∃ t, c.raw.timingOf m.speedClass s.toNat = some t :=
  c.timing_exists (c.speedClass_lt hm) hs

end Sys2Proof

namespace Sys2Proof.Machine

/-- Settles O59: K1 and K2 give the rows, the totality of `TIMING` the entries. -/
theorem tablesAreTotal : Obligations.TablesAreTotal := by
  refine fun c => ⟨fun e => ?_, fun k hk l hl => c.timing_exists hk hl⟩
  obtain ⟨m, hm⟩ := c.row_exists e
  exact ⟨m, hm, c.speedClass_lt hm⟩

theorem maxColors_toNat_ne_zero {m : CatalogRow} (h : m.maxColors ≠ 0) : m.maxColors.toNat ≠ 0 :=
  fun h0 => h (BitVec.eq_of_toNat_eq h0)

/-- `check_fit` by path (R213). -/
theorem checkFit_ok {c : RawCfg} {p : Path} {n : Nat} :
    checkFit c p n = .ok () ↔ (p = .default → n ≤ 16) ∧ (p = .dense → n ≤ 20 ∨ c.denseOverflow = .truncate) := by
  cases p with
  | default =>
    by_cases h : 16 < n
    · simp [checkFit, h]
    · simp [checkFit, h, Nat.le_of_not_lt h]
  | dense =>
    cases hd : c.denseOverflow with
    | fault =>
      by_cases h : 20 < n
      · simp [checkFit, h, hd]
      · simp [checkFit, h, Nat.le_of_not_lt h]
    | truncate => simp [checkFit, hd]
  | wings => simp [checkFit]

section
variable {c : RawCfg} {ch : Channel} {eff : BitVec 6} {n : Nat} {col : ColourRegs} {s : BitVec 3} {e : Effect} {m : CatalogRow}

/-- A code with no effect (R211). -/
theorem build_unknown (he : Effect.ofCode eff = none) : build c ch eff n col s = .error (.unknownEffect eff) := by
  simp [build, he]

/-- A reserved colour count (R88). -/
theorem build_reserved (he : Effect.ofCode eff = some e) (hm : c.row e = some m) (hn : 40 < n) :
    build c ch eff n col s = .error (reservedCount m n) := by
  simp [build, he, hm, hn]

/-- What validation rejects, `build` rejects. -/
theorem build_rejected {x : EncodeError} (he : Effect.ofCode eff = some e) (hm : c.row e = some m) (hn : n ≤ 40)
    (hv : validate c e m n s = .error x) : build c ch eff n col s = .error x := by
  simp [build, he, hm, hn, hv]

/-- What validation accepts, `build` makes the frames of its path of. -/
theorem build_accepted {t : Byte × Byte} (he : Effect.ofCode eff = some e) (hm : c.row e = some m) (hn : n ≤ 40)
    (hv : validate c e m n s = .ok t) : build c ch eff n col s = .ok (pathFrames c ch e m n col t) := by
  simp [build, he, hm, hn, hv]

/-- The colour count is judged first (R218). -/
theorem validate_count_error {x : EncodeError} (h : checkCount m n = .error x) : validate c e m n s = .error x := by
  simp [validate, h]

/-- With a right count, the speed level is judged next (R212, R218). -/
theorem validate_speed_error (hn : CountOk m n) (hs : 4 < s.toNat) :
    validate c e m n s = .error (.invalidSpeedIndex m.speedClass s) := by
  simp [validate, checkCount_ok.mpr hn, timingEntry, hs]

/-- With a right count and level, the fit is judged last (R213, R218). -/
theorem validate_fit_error {t : Byte × Byte} {x : EncodeError} (hn : CountOk m n) (hs : s.toNat ≤ 4)
    (ht : c.timingOf m.speedClass s.toNat = some t) (hf : checkFit c e.info.path n = .error x) :
    validate c e m n s = .error x := by
  simp [validate, checkCount_ok.mpr hn, timingEntry, Nat.not_lt.mpr hs, ht, hf]

theorem checkCount_noneNeeded (h0 : m.maxColors = 0) (hn : 0 < n) :
    checkCount m n = .error (.invalidColorCount .noneNeeded n m.minColors.toNat m.maxColors.toNat) := by
  simp [checkCount, h0, hn]

theorem checkCount_tooFew (h0 : m.maxColors ≠ 0) (hn : n < m.minColors.toNat) :
    checkCount m n = .error (.invalidColorCount .tooFew n m.minColors.toNat m.maxColors.toNat) := by
  rw [checkCount, if_neg (maxColors_toNat_ne_zero h0), if_pos hn]

theorem checkCount_tooMany (h0 : m.maxColors ≠ 0) (hlo : m.minColors.toNat ≤ n) (hn : m.maxColors.toNat < n) :
    checkCount m n = .error (.invalidColorCount .tooMany n m.minColors.toNat m.maxColors.toNat) := by
  rw [checkCount, if_neg (maxColors_toNat_ne_zero h0), if_neg (by omega), if_pos hn]

end

/-- A valid count on the default and the dense path is not reserved, and a valid command of any path passes `check_fit` there. -/
theorem checkFit_of_valid (c : Cfg) {e : Effect} {m : CatalogRow} {n : Nat} (hm : c.raw.row e = some m) (hn : CountOk m n)
    (hd : e.info.path = .dense → n ≤ 20 ∨ c.raw.denseOverflow = .truncate) : checkFit c.raw e.info.path n = .ok () :=
  checkFit_ok.mpr ⟨fun hp => default_count c hp hm hn, hd⟩

/-- A valid command builds the frames of its path. -/
theorem build_valid (c : Cfg) (ch : Channel) {eff : BitVec 6} {n : Nat} (col : ColourRegs) {s : BitVec 3} {e : Effect}
    {m : CatalogRow} {t : Byte × Byte} (he : Effect.ofCode eff = some e) (hm : c.raw.row e = some m) (h40 : n ≤ 40)
    (hn : CountOk m n) (hs : s.toNat ≤ 4) (ht : c.raw.timingOf m.speedClass s.toNat = some t)
    (hd : e.info.path = .dense → n ≤ 20 ∨ c.raw.denseOverflow = .truncate) :
    build c.raw ch eff n col s = .ok (pathFrames c.raw ch e m n col t) :=
  build_accepted he hm h40 (validate_ok.mpr ⟨hn, hs, ht, checkFit_of_valid c hm hn hd⟩)

/-- Settles O7: what `build` accepts, validation accepted; and a valid command has a timing entry. -/
theorem buildAcceptsExactlyTheValidCommands : Obligations.BuildAcceptsExactlyTheValidCommands := by
  refine fun c ch eff n col s => ⟨⟨?_, ?_⟩, ?_⟩
  · rintro ⟨fl, hb⟩
    obtain ⟨e, m, t, he, hm, h40, hv, -⟩ := build_ok hb
    obtain ⟨hn, hs, -, hf⟩ := validate_ok.mp hv
    exact ⟨e, m, he, hm, h40, hn, hs, (checkFit_ok.mp hf).2⟩
  · rintro ⟨e, m, he, hm, h40, hn, hs, hd⟩
    obtain ⟨t, ht⟩ := c.row_timing_exists hm hs
    exact ⟨_, build_valid c ch col he hm h40 hn hs ht hd⟩
  · rintro ⟨fl, hb⟩ rfl
    obtain ⟨e, m, t, he, hm, -, hv, -⟩ := build_ok hb
    rw [Effect.ofCode_code] at he
    cases he
    exact wings_count c rfl hm (validate_ok.mp hv).1

/-- Settles O8: the judgements in the order of R218, and the reserved counts before them. -/
theorem buildReportsTheFirstError : Obligations.BuildReportsTheFirstError := by
  refine fun c ch eff n col s => ⟨build_unknown, fun e m he hm => ⟨fun h0 hn => ?_, fun h0 hn h40 => ?_, fun h0 hn => ?_,
    fun h0 hn => ?_, fun hp hn => ?_, fun hn h40 hs => ?_, fun hn hs hp h20 hd => ?_⟩⟩
  · by_cases h40 : 40 < n
    · rw [build_reserved he hm h40, reservedCount, if_pos h0]
    · exact build_rejected he hm (by omega) (validate_count_error (checkCount_noneNeeded h0 hn))
  · exact build_rejected he hm h40 (validate_count_error (checkCount_tooFew h0 hn))
  · by_cases h40 : 40 < n
    · rw [build_reserved he hm h40, reservedCount, if_neg h0]
    · have hlo := c.minColors_le hm (maxColors_toNat_ne_zero h0)
      exact build_rejected he hm (by omega) (validate_count_error (checkCount_tooMany h0 (by omega) hn))
  · rw [build_reserved he hm hn, reservedCount, if_neg h0]
  · have hmin := c.k8 hm
    simp only [rowK8, hp, decide_eq_true_eq] at hmin
    exact build_rejected he hm (by omega)
      (validate_count_error (checkCount_tooFew (c.wings_maxColors hp hm) (by omega)))
  · exact build_rejected he hm h40 (validate_speed_error hn hs)
  · obtain ⟨t, ht⟩ := c.row_timing_exists hm hs
    have h40 := count_le_forty c (by rw [hp]; exact nofun) hm hn
    exact build_rejected he hm h40 (validate_fit_error hn hs ht (by simp [checkFit, hp, h20, hd]))

/-- The registers of a loaded latch: the first `n` new, the others kept. -/
theorem ColourRegs.load_getElem? (old new : ColourRegs) (n i : Nat) :
    (ColourRegs.load old new n).list[i]? = if i < n then new.list[i]? else old.list[i]? := by
  have hnew := new.len
  have hold := old.len
  simp only [ColourRegs.load, List.getElem?_append, List.length_take, hnew]
  by_cases hi : i < n
  · by_cases h40 : i < 40
    · rw [if_pos (by omega), if_pos hi, List.getElem?_take_of_lt hi]
    · rw [if_neg (by omega), if_pos hi, List.getElem?_eq_none (by rw [List.length_drop]; omega),
        List.getElem?_eq_none (by omega)]
  · rw [if_neg (by omega), if_neg hi, List.getElem?_drop]
    by_cases h40 : n ≤ 40
    · rw [show n + (i - min n 40) = i by omega]
    · rw [List.getElem?_eq_none (by omega), List.getElem?_eq_none (by omega)]

/-- Settles O9: `build` reads the first `n` colours, and the latch takes them. -/
theorem unusedColoursAreIgnored : Obligations.UnusedColoursAreIgnored :=
  ⟨fun c ch eff _ _ _ s h => build_congr c ch eff s h, ColourRegs.load_getElem?⟩

end Sys2Proof.Machine

/-! ### O20 to O24: SET -/

namespace Sys2Proof.Machine

/-- A SET that `build` accepts, in one record. -/
theorem exec_set_accepted {e : Effect} {a : CmdArgs} {s : State} {fl : List Frame} (hready : s.ready = true)
    (hb : build s.cfg.raw a.ch e.code a.n.toNat a.col a.spd = .ok fl) :
    exec (Instr.ofEffect e a) s = .next
      { s with
        latch := ⟨a.ch, e.code, a.spd, a.n, ColourRegs.load s.latch.col a.col a.n.toNat⟩
        err := .none
        fl := fl
        fi := 0
        busy := true } := by
  rw [exec_ofEffect, issueCode_ready hready, hb]
  rfl

/-- Settles O20: the path of the effect is the default one. -/
theorem setDefaultPathCompletes : Obligations.SetDefaultPathCompletes := by
  intro e a s m t hp hready hm hn hs ht
  have h40 := count_le_forty s.cfg (by rw [hp]; exact nofun) hm hn
  rw [exec_set_accepted hready
    (build_valid s.cfg a.ch a.col (Effect.ofCode_code e) hm h40 hn hs ht (by rw [hp]; exact nofun))]
  simp only [pathFrames, hp]

/-- Settles O21: the path of the effect is the dense one, and the colours fit or are to be truncated. -/
theorem setDensePathCompletes : Obligations.SetDensePathCompletes := by
  intro e a s m t hp hready hm hn hs hd ht
  have h40 := count_le_forty s.cfg (by rw [hp]; exact nofun) hm hn
  rw [exec_set_accepted hready (build_valid s.cfg a.ch a.col (Effect.ofCode_code e) hm h40 hn hs ht fun _ => hd)]
  simp only [pathFrames, hp]

/-- Settles O22: the first colour is the head of the registers. -/
theorem setWingsCompletes : Obligations.SetWingsCompletes := by
  intro a s m t c1 hready hm h40 hn hs ht hc1
  have hpos := wings_count s.cfg rfl hm hn
  refine ⟨fun h0 => absurd (h0 ▸ hpos) (by decide), ?_⟩
  change exec (Instr.ofEffect .wings a) s = _
  rw [exec_set_accepted hready (build_valid s.cfg a.ch a.col (Effect.ofCode_code .wings) hm h40 hn hs ht nofun)]
  have hhead : ∀ h : a.col.list ≠ [], a.col.list.head h = c1 := fun h => by
    rw [List.head_eq_getElem]
    exact (List.getElem?_eq_some_iff.mp hc1).2
  simp only [pathFrames, show Effect.wings.info.path = .wings from rfl, hhead]

/-- A command of any code that `build` rejects, in one record. -/
theorem issueCode_rejected {eff : BitVec 6} {a : CmdArgs} {s : State} {x : EncodeError} (hready : s.ready = true)
    (hb : build s.cfg.raw a.ch eff a.n.toNat a.col a.spd = .error x) :
    issueCode eff a s =
      { s with
        latch := ⟨a.ch, eff, a.spd, a.n, ColourRegs.load s.latch.col a.col a.n.toNat⟩
        err := .encode x } := by
  rw [issueCode_ready hready, hb]
  rfl

/-- Settles O23: `build` rejects the command. -/
theorem setRejectedSendsNothing : Obligations.SetRejectedSendsNothing := by
  intro e a s x hready hb
  rw [exec_ofEffect, issueCode_rejected hready hb]

/-- The codes with no effect are those from 40 on (R72, R88). -/
theorem ofCode_eq_none_iff {c : BitVec 6} : Effect.ofCode c = none ↔ 40 ≤ c.toNat :=
  List.getElem?_eq_none_iff

/-- A ready block has no handshake running. -/
theorem hsRunning_of_ready {s : State} (h : s.ready = true) : s.hsRunning = false := by
  simp [State.hsRunning, uninit_of_init (ready_iff.mp h).1]

/-- Settles O24: the word is the first enabled request, and `build` knows no effect of its code. -/
theorem reservedEffectCodeRaisesUnknownEffect : Obligations.ReservedEffectCodeRaisesUnknownEffect := by
  rintro s w before after a hready hport hheld hcode rfl
  have hnone := ofCode_eq_none_iff.mpr hcode
  rw [step_serves (ready_iff.mp hready).2.1 (hsRunning_of_ready hready) hport hheld hready]
  have hrun : ∀ u : State, runRequest (.cmd w) u = .next (issueCode (cmdCode w) (cmdArgs w) u) := fun u => by
    simp [runRequest, decode, decodeCmd, hnone, reject]
  rw [hrun, issueCode_rejected (s := { s with port := before ++ after }) hready (build_unknown hnone)]

end Sys2Proof.Machine

/-! ### O12, O13, O18: single bytes of the frames -/

namespace Sys2Proof.Machine

/-- WaterCooler is the one effect of its family. -/
theorem family_waterCooler_iff (e : Effect) : e.info.family = .waterCooler ↔ e = .waterCooler := by
  cases e <;> decide

/-- R107, for the counts the default path admits. -/
theorem countByte_toNat (e : Effect) {n : Nat} (hn : n ≤ 16) :
    (countByte e n).toNat = if e.info.family = .waterCooler then 1 else n := by
  unfold countByte
  split
  · rfl
  · rw [BitVec.toNat_ofNat, Nat.mod_eq_of_lt (by omega)]

theorem sizeByte_eq_ite (m : CatalogRow) : sizeByte m = if m.opcode = 0x03 ∨ m.opcode = 0x05 then m.variant else 3 := by
  simp only [sizeByte, isLengthOpcode, Bool.or_eq_true, decide_eq_true_eq]

/-- R104 for the forty effects by name. -/
theorem dirByte_by_name (e : Effect) : (dirByte e).toNat =
    if e ∈ [.marquee3, .marquee4, .marquee5, .marquee6] then 4
    else if e ∈ [.backwardMarquee3, .backwardMarquee4, .backwardMarquee5, .backwardMarquee6] then 6
    else if e ∈ [.starryNight, .movingAlternating3, .movingAlternating4, .movingAlternating5, .movingAlternating6] then 1
    else if e ∈ [.backwardMovingAlternating3, .backwardMovingAlternating4, .backwardMovingAlternating5,
      .backwardMovingAlternating6] then 3
    else if e ∈ [.backwardSpectrumWave, .backwardRainbowFlow, .backwardSuperRainbow, .backwardRainbowPulse] then 2
    else 0 := by
  rw [dirByte_toNat]
  cases e <;> decide

/-- R105 for the forty effects by name. -/
theorem modeByte_by_name (e : Effect) : modeByte e =
    if e ∈ [.fading, .pulse, .breathing] then 8
    else if e ∈ [.taiChi, .waterCooler] then 5
    else if e = .loading then 4 else 0 := by
  rw [modeByte_eq_ite]
  cases e <;> decide

/-- Settles O12: the bytes of the footer one by one, the effects by name, and the channel ids. -/
theorem lightStaticCountSizeBytes : Obligations.LightStaticCountSizeBytes :=
  ⟨⟨rfl, rfl, rfl, rfl⟩, fun e _ hn => countByte_toNat e hn, sizeByte_eq_ite, dirByte_by_name, modeByte_by_name,
    fun e n hn => (countByte_toNat e hn).trans (by simp only [family_waterCooler_iff]), rfl, rfl, rfl, rfl⟩

/-- Settles O13: by K6 the opcode is a length opcode and the variant the group length. -/
theorem lengthFamilySizeIsGroupLength : Obligations.LengthFamilySizeIsGroupLength := by
  intro c e m L hm hL
  have h := c.k6 hm
  simp only [rowK6, hL, Bool.and_eq_true, decide_eq_true_eq] at h
  obtain ⟨hop, hvar⟩ := h
  rw [sizeByte, if_pos hop, hvar]

theorem scaleTwoFifths_toNat (x : Byte) : (scaleTwoFifths x).toNat = 2 * x.toNat / 5 := by
  have := x.isLt
  rw [scaleTwoFifths, BitVec.toNat_ofNat, Nat.mod_eq_of_lt (by omega)]

theorem scaleQuarter_toNat (x : Byte) : (scaleQuarter x).toNat = x.toNat / 4 := by
  have := x.isLt
  rw [scaleQuarter, BitVec.toNat_ofNat, Nat.mod_eq_of_lt (by omega)]

/-- Settles O18: two floors one after the other are one floor. -/
theorem wingsRamp : Obligations.WingsRamp := by
  intro x
  have hx := x.isLt
  have hfifths := scaleTwoFifths_toNat x
  have hquarter := scaleQuarter_toNat (scaleTwoFifths x)
  refine ⟨hfifths, ?_, ?_, ?_⟩ <;> omega

end Sys2Proof.Machine

/-! ### O1 to O6: decoding and encoding

A frame is the encoding of its own fields if its fixed bytes and its padding are those of the kind (`encodeLight_of_frame` and the
others); and the fields of an encoding are read back. -/

namespace Sys2Proof

/-! #### Command words -/

/-- The selector of the channel a selector stands for. -/
theorem Channel.sel_ofSel (v : BitVec 2) : (Channel.ofSel v).sel = v := by
  revert v; decide

/-- Four neighbouring fields make the head of a command word. -/
theorem head_of_fields (h : BitVec 17) :
    h.extractLsb' 11 6 ++ h.extractLsb' 8 3 ++ h.extractLsb' 2 6 ++ h.extractLsb' 0 2 = h := by
  ext i hi
  simp only [BitVec.getElem_append, BitVec.getElem_extractLsb']
  split_ifs <;> rw [← BitVec.getLsbD_eq_getElem] <;> congr 1 <;> omega

/-- The colour of a field makes the field (R70). -/
theorem colourField_ofField (v : BitVec 24) : colourField (Colour.ofField v) = v := by
  apply BitVec.eq_of_getLsbD_eq
  intro i hi
  simp only [colourField, Colour.ofField, BitVec.getLsbD_append, BitVec.getLsbD_extractLsb']
  split_ifs with h1 h2
  · simp [h1]
  · simp [show i - 8 < 8 by omega, show 8 + (i - 8) = i by omega]
  · simp [show i - 8 - 8 < 8 by omega, show 16 + (i - 8 - 8) = i by omega]

/-- A command word is put together from its code and its operands. -/
theorem encodeCmd_cmdArgs (w : CmdWord) : encodeCmd (cmdCode w) (cmdArgs w) = w := by
  obtain ⟨head, cols, len⟩ := w
  simp only [encodeCmd, cmdCode, cmdArgs, Channel.sel_ofSel, head_of_fields, List.map_map, CmdWord.mk.injEq, true_and]
  exact (List.map_congr_left fun v _ => colourField_ofField v).trans (List.map_id _)

theorem cmdCode_encodeCmd (code : BitVec 6) (a : CmdArgs) : cmdCode (encodeCmd code a) = code :=
  (head_fields a.n a.spd code a.ch.sel).2.1

theorem cmdArgs_encodeCmd (code : BitVec 6) (a : CmdArgs) : cmdArgs (encodeCmd code a) = a := by
  obtain ⟨hsel, -, hspd, hn⟩ := head_fields a.n a.spd code a.ch.sel
  have hcols : (a.col.list.map colourField).map Colour.ofField = a.col.list := by
    rw [List.map_map]
    exact (List.map_congr_left fun c _ => Colour.ofField_colourField c).trans (List.map_id _)
  obtain ⟨ch, spd, n, ⟨list, len⟩⟩ := a
  simp only [cmdArgs, encodeCmd, CmdArgs.mk.injEq, ColourRegs.mk.injEq]
  exact ⟨by rw [hsel, Channel.ofSel_sel], hspd, hn, hcols⟩

/-- A command word decodes to the SET of the effect with its code. -/
theorem decodeCmd_of_ofCode {w : CmdWord} {e : Effect} (h : Effect.ofCode (cmdCode w) = some e) :
    decodeCmd w = .ok (Instr.ofEffect e (cmdArgs w)) := by
  simp [decodeCmd, h]

theorem decode_rawCmd (e : Effect) (a : CmdArgs) : decode (rawCmd e a) = .ok (Instr.ofEffect e a) := by
  have h : Effect.ofCode (cmdCode (encodeCmd e.code a)) = some e := by rw [cmdCode_encodeCmd, Effect.ofCode_code]
  change decodeCmd (encodeCmd e.code a) = _
  rw [decodeCmd_of_ofCode h, cmdArgs_encodeCmd]

/-- Settles O2: the word an instruction was read from is put together from its operands. -/
theorem commandWordsRoundTrip : Obligations.CommandWordsRoundTrip := by
  intro w i h
  cases he : Effect.ofCode (cmdCode w) with
  | none => simp [decode, decodeCmd, he] at h
  | some e =>
    cases (decodeCmd_of_ofCode he).symm.trans h
    rw [encode_ofEffect, rawCmd, Effect.code_of_ofCode he, encodeCmd_cmdArgs]

/-! #### A frame is the encoding of its fields -/

theorem slotBytes_length (cs : List Colour) : (slotBytes cs).length = 3 * cs.length := flatMap_grb_length cs

@[simp] theorem Frame.slots_length (F : Frame) (lo k : Nat) : (F.slots lo k).length = k := by simp [Frame.slots]

theorem encodeLight_of_frame {F : Frame} {ch : Channel} (h0 : F.get 0 = 0x2A) (h1 : F.get 1 = 0x04)
    (h2 : F.get 2 = cidByte ch) (h3 : F.get 3 = cidByte ch) (hz : F.zeroFrom 60 = true) :
    encodeLight ⟨ch, F.get 4, F.get 5, F.get 6, F.slots 7 16, F.get 55, F.get 56, F.get 57, F.get 58, F.get 59⟩ = F := by
  have hhead : [0x2A, 0x04, cidByte ch, cidByte ch, F.get 4, F.get 5, F.get 6] = F.slice 0 7 := by
    rw [show F.slice 0 7 = [F.get 0, F.get 1, F.get 2, F.get 3, F.get 4, F.get 5, F.get 6] from rfl, h0, h1, h2, h3]
  have hfoot : [F.get 55, F.get 56, F.get 57, F.get 58, F.get 59] = F.slice 55 5 := rfl
  rw [encodeLight, hhead, hfoot, slotBytes_slots, F.slice_append 0 7 (3 * 16), F.slice_append 0 55 5,
    pad64_slice_zeroFrom (by omega) hz]

theorem encodePalc_of_frame {F : Frame} {ch : Channel} (h0 : F.get 0 = 0x22) (h1 : F.get 1 = 0x10)
    (h2 : F.get 2 = cidByte ch) : encodePalc ⟨ch, F.slots 3 20, F.get 63⟩ = F := by
  have hhead : [0x22, 0x10, cidByte ch] = F.slice 0 3 := by
    rw [← h0, ← h1, ← h2]
    rfl
  have hlast : [F.get 63] = F.slice 63 1 := rfl
  rw [encodePalc, hhead, hlast, slotBytes_slots, F.slice_append 0 3 (3 * 20), F.slice_append 0 63 1,
    pad64_slice_zeroFrom (by omega) rfl]

theorem encodePalx_of_frame {F : Frame} {ch : Channel} (h0 : F.get 0 = 0x22) (h1 : F.get 1 = 0x11)
    (h2 : F.get 2 = cidByte ch) (hz : F.zeroFrom 3 = true) : encodePalx ch = F := by
  have hhead : [0x22, 0x11, cidByte ch] = F.slice 0 3 := by
    rw [← h0, ← h1, ← h2]
    rfl
  rw [encodePalx, hhead, pad64_slice_zeroFrom (by omega) hz]

theorem encodePalt_of_frame {F : Frame} {ch : Channel} (h0 : F.get 0 = 0x22) (h1 : F.get 1 = 0xA0)
    (h2 : F.get 2 = cidByte ch) (hs : F.slice 6 9 = denseSuffix) (hz : F.zeroFrom 15 = true) :
    encodePalt ⟨ch, F.get 3, F.get 4, F.get 5⟩ = F := by
  have hhead : [0x22, 0xA0, cidByte ch, F.get 3, F.get 4, F.get 5] = F.slice 0 6 := by
    rw [← h0, ← h1, ← h2]
    rfl
  rw [encodePalt, hhead, ← hs, F.slice_append 0 6 9, pad64_slice_zeroFrom (by omega) hz]

/-- A zone index read from a byte is the byte (R81). -/
theorem zeroExtend_truncate_zone {b : Byte} (h : b.toNat ≤ 7) : (b.truncate 3).zeroExtend 8 = b := by
  apply BitVec.eq_of_toNat_eq
  simp only [BitVec.truncate_eq_setWidth, BitVec.toNat_setWidth]
  omega

theorem encodeZone_of_frame {F : Frame} {ch : Channel} (h0 : F.get 0 = 0x22) (h1 : F.get 1 = 0x20)
    (h2 : F.get 2 = cidByte ch) (h3 : (F.get 3).toNat ≤ 7) (hz : F.zeroFrom 23 = true) :
    encodeZone ⟨ch, (F.get 3).truncate 3, F.slice 4 13, F.slice 17 6⟩ = F := by
  have hhead : [0x22, 0x20, cidByte ch, ((F.get 3).truncate 3).zeroExtend 8] = F.slice 0 4 := by
    rw [zeroExtend_truncate_zone h3, ← h0, ← h1, ← h2]
    rfl
  rw [encodeZone, hhead, F.slice_append 0 4 13, F.slice_append 0 17 6, pad64_slice_zeroFrom (by omega) hz]

theorem encodeZen_of_frame {F : Frame} {ch : Channel} (h0 : F.get 0 = 0x22) (h1 : F.get 1 = 0x03)
    (h2 : F.get 2 = cidByte ch) (h3 : F.get 3 = 0x08) (hz : F.zeroFrom 4 = true) : encodeZen ch = F := by
  have hhead : [0x22, 0x03, cidByte ch, 0x08] = F.slice 0 4 := by
    rw [← h0, ← h1, ← h2, ← h3]
    rfl
  rw [encodeZen, hhead, pad64_slice_zeroFrom (by omega) hz]

/-! #### What the six frame decoders accept -/

/-- The instruction is well formed and encodes to the frame. -/
def ReadsBack (F : Frame) (i : Instr) : Prop := i.wellFormed = true ∧ encode i = .sent F

theorem readsBack_light {F : Frame} {i : Instr} (ht : F.tag = (0x2A, 0x04)) (h : decodeLight F = .ok i) :
    ReadsBack F i := by
  obtain ⟨h0, h1⟩ := (Machine.Frame.tag_eq _ _ _).mp ht
  unfold decodeLight at h
  split at h
  · cases h
  · next ch hch =>
    have h2 := (Channel.cidByte_of_ofCid hch).symm
    split_ifs at h with h3 hz
    cases h
    exact ⟨by simp [Instr.wellFormed],
      congrArg Raw.sent (encodeLight_of_frame h0 h1 h2 ((not_not.mp h3).trans h2) hz)⟩

theorem readsBack_palc {F : Frame} {i : Instr} (ht : F.tag = (0x22, 0x10)) (h : decodePalc F = .ok i) :
    ReadsBack F i := by
  obtain ⟨h0, h1⟩ := (Machine.Frame.tag_eq _ _ _).mp ht
  unfold decodePalc at h
  split at h
  · cases h
  · next ch hch =>
    cases h
    exact ⟨by simp [Instr.wellFormed],
      congrArg Raw.sent (encodePalc_of_frame h0 h1 (Channel.cidByte_of_ofCid hch).symm)⟩

theorem readsBack_palx {F : Frame} {i : Instr} (ht : F.tag = (0x22, 0x11)) (h : decodePalx F = .ok i) :
    ReadsBack F i := by
  obtain ⟨h0, h1⟩ := (Machine.Frame.tag_eq _ _ _).mp ht
  unfold decodePalx at h
  split at h
  · cases h
  · next ch hch =>
    split_ifs at h with hz
    cases h
    exact ⟨rfl, congrArg Raw.sent (encodePalx_of_frame h0 h1 (Channel.cidByte_of_ofCid hch).symm hz)⟩

theorem readsBack_palt {F : Frame} {i : Instr} (ht : F.tag = (0x22, 0xA0)) (h : decodePalt F = .ok i) :
    ReadsBack F i := by
  obtain ⟨h0, h1⟩ := (Machine.Frame.tag_eq _ _ _).mp ht
  unfold decodePalt at h
  split at h
  · cases h
  · next ch hch =>
    split_ifs at h with hs hz
    cases h
    exact ⟨rfl, congrArg Raw.sent
      (encodePalt_of_frame h0 h1 (Channel.cidByte_of_ofCid hch).symm (not_not.mp hs) hz)⟩

theorem readsBack_zone {F : Frame} {i : Instr} (ht : F.tag = (0x22, 0x20)) (h : decodeZone F = .ok i) :
    ReadsBack F i := by
  obtain ⟨h0, h1⟩ := (Machine.Frame.tag_eq _ _ _).mp ht
  unfold decodeZone at h
  split at h
  · cases h
  · next ch hch =>
    split_ifs at h with h7 hz
    cases h
    exact ⟨by simp [Instr.wellFormed], congrArg Raw.sent
      (encodeZone_of_frame h0 h1 (Channel.cidByte_of_ofCid hch).symm (Nat.le_of_not_lt h7) hz)⟩

theorem readsBack_zen {F : Frame} {i : Instr} (ht : F.tag = (0x22, 0x03)) (h : decodeZen F = .ok i) :
    ReadsBack F i := by
  obtain ⟨h0, h1⟩ := (Machine.Frame.tag_eq _ _ _).mp ht
  unfold decodeZen at h
  split at h
  · cases h
  · next ch hch =>
    split_ifs at h with h3 hz
    cases h
    exact ⟨rfl, congrArg Raw.sent
      (encodeZen_of_frame h0 h1 (Channel.cidByte_of_ofCid hch).symm (not_not.mp h3) hz)⟩

/-- Settles O3: the frame decoders one by one. -/
theorem sentFramesRoundTrip : Obligations.SentFramesRoundTrip := by
  intro F i h
  change decodeSent F = .ok i at h
  unfold decodeSent at h
  split_ifs at h with hlight hpalc hpalx hpalt hzone hzen
  · exact readsBack_light hlight h
  · exact readsBack_palc hpalc h
  · exact readsBack_palx hpalx h
  · exact readsBack_palt hpalt h
  · exact readsBack_zone hzone h
  · exact readsBack_zen hzen h

/-! #### The fields of an encoding are read back -/

/-- The colour slots in the middle of a padded list are the colours laid there. -/
theorem pad64_slots {pre post : List Byte} {cs : List Colour} {lo k : Nat} (hl : pre.length = lo) (hk : cs.length = k)
    (h64 : (pre ++ slotBytes cs ++ post).length ≤ 64) : (pad64 (pre ++ slotBytes cs ++ post)).slots lo k = cs := by
  apply List.ext_getElem
  · simp [hk]
  · intro i h1 h2
    obtain ⟨hg, hr, hb⟩ := pad64_colour hl h64 (List.getElem?_eq_getElem h2)
    simp only [Frame.slots, List.getElem_map, List.getElem_range, slotBytes, hg, hr, hb]

/-- The last part of a padded list. -/
theorem pad64_slice_end {pre mid : List Byte} {lo k : Nat} (hl : pre.length = lo) (hk : mid.length = k)
    (h64 : (pre ++ mid).length ≤ 64) : (pad64 (pre ++ mid)).slice lo k = mid := by
  have h := pad64_slice (post := []) hl hk (by simpa using h64)
  rwa [List.append_nil] at h

theorem decodeSent_light {F : Frame} (ht : F.tag = (0x2A, 0x04)) : decodeSent F = decodeLight F := if_pos ht
theorem decodeSent_palc {F : Frame} (ht : F.tag = (0x22, 0x10)) : decodeSent F = decodePalc F := by simp [decodeSent, ht]
theorem decodeSent_palx {F : Frame} (ht : F.tag = (0x22, 0x11)) : decodeSent F = decodePalx F := by simp [decodeSent, ht]
theorem decodeSent_palt {F : Frame} (ht : F.tag = (0x22, 0xA0)) : decodeSent F = decodePalt F := by simp [decodeSent, ht]
theorem decodeSent_zone {F : Frame} (ht : F.tag = (0x22, 0x20)) : decodeSent F = decodeZone F := by simp [decodeSent, ht]
theorem decodeSent_zen {F : Frame} (ht : F.tag = (0x22, 0x03)) : decodeSent F = decodeZen F := by simp [decodeSent, ht]

theorem decodeSent_encodeLight {f : LightFields} (h : f.slots.length = 16) :
    decodeSent (encodeLight f) = .ok (.light f) := by
  have h2 : (encodeLight f).get 2 = cidByte f.cid := rfl
  have h3 : (encodeLight f).get 3 = cidByte f.cid := rfl
  have hlen : ([0x2A, 0x04, cidByte f.cid, cidByte f.cid, f.opcode, f.t0, f.t1] ++ slotBytes f.slots
      ++ [f.f55, f.f56, f.f57, f.f58, f.f59]).length = 60 := by simp [slotBytes_length, h]
  have hz : (encodeLight f).zeroFrom 60 = true := pad64_zeroFrom hlen.le (by omega)
  have hslots : (encodeLight f).slots 7 16 = f.slots := pad64_slots rfl h (by omega)
  have hfoot : [(encodeLight f).get 55, (encodeLight f).get 56, (encodeLight f).get 57, (encodeLight f).get 58,
      (encodeLight f).get 59] = [f.f55, f.f56, f.f57, f.f58, f.f59] :=
    pad64_slice_end (lo := 55) (k := 5) (by simp [slotBytes_length, h]) rfl (by omega)
  simp only [List.cons.injEq, and_true] at hfoot
  obtain ⟨h55, h56, h57, h58, h59⟩ := hfoot
  rw [decodeSent_light rfl, decodeLight, h2, Channel.ofCid_cidByte]
  simp only [h3, hz, hslots, h55, h56, h57, h58, h59, ne_eq, not_true_eq_false, if_false]
  rfl

theorem decodeSent_encodePalc {f : PalcFields} (h : f.slots.length = 20) : decodeSent (encodePalc f) = .ok (.palc f) := by
  have h2 : (encodePalc f).get 2 = cidByte f.cid := rfl
  have hlen : ([0x22, 0x10, cidByte f.cid] ++ slotBytes f.slots ++ [f.last]).length = 64 := by simp [slotBytes_length, h]
  have hslots : (encodePalc f).slots 3 20 = f.slots := pad64_slots rfl h hlen.le
  have hlast : [(encodePalc f).get 63] = [f.last] :=
    pad64_slice_end (lo := 63) (k := 1) (by simp [slotBytes_length, h]) rfl hlen.le
  simp only [List.cons.injEq, and_true] at hlast
  rw [decodeSent_palc rfl, decodePalc, h2, Channel.ofCid_cidByte]
  simp only [hslots, hlast]

theorem decodeSent_encodePalx (ch : Channel) : decodeSent (encodePalx ch) = .ok (.palx ch) := by
  have h2 : (encodePalx ch).get 2 = cidByte ch := rfl
  have hz : (encodePalx ch).zeroFrom 3 = true := pad64_zeroFrom (le_refl 3) (by simp)
  rw [decodeSent_palx rfl, decodePalx, h2, Channel.ofCid_cidByte]
  simp only [hz, if_true]

theorem decodeSent_encodePalt (f : PaltFields) : decodeSent (encodePalt f) = .ok (.palt f) := by
  have h2 : (encodePalt f).get 2 = cidByte f.cid := rfl
  have hlen : ([0x22, 0xA0, cidByte f.cid, f.opcode, f.t0, f.t1] ++ denseSuffix).length = 15 := rfl
  have hs : (encodePalt f).slice 6 9 = denseSuffix := pad64_slice_end rfl rfl (by omega)
  have hz : (encodePalt f).zeroFrom 15 = true := pad64_zeroFrom hlen.le (by omega)
  rw [decodeSent_palt rfl, decodePalt, h2, Channel.ofCid_cidByte]
  simp only [hs, hz, ne_eq, not_true_eq_false, if_false]
  rfl

theorem decodeSent_encodeZone {f : ZoneFields} (ht : f.template.length = 13) (hg : f.group.length = 6) :
    decodeSent (encodeZone f) = .ok (.zone f) := by
  have h2 : (encodeZone f).get 2 = cidByte f.cid := rfl
  have h3 : (encodeZone f).get 3 = f.zone.zeroExtend 8 := rfl
  have hzone : ¬ 7 < (f.zone.zeroExtend 8).toNat := by
    have := f.zone.isLt
    simp only [BitVec.truncate_eq_setWidth, BitVec.toNat_setWidth]
    omega
  have hback : (f.zone.zeroExtend 8).truncate 3 = f.zone := by simp
  have hlen : ([0x22, 0x20, cidByte f.cid, f.zone.zeroExtend 8] ++ f.template ++ f.group).length = 23 := by
    simp [ht, hg]
  have hz : (encodeZone f).zeroFrom 23 = true := pad64_zeroFrom hlen.le (by omega)
  have htemplate : (encodeZone f).slice 4 13 = f.template := pad64_slice rfl ht (by omega)
  have hgroup : (encodeZone f).slice 17 6 = f.group := pad64_slice_end (by simp [ht]) hg (by omega)
  rw [decodeSent_zone rfl, decodeZone, h2, Channel.ofCid_cidByte]
  simp only [h3, hz, if_neg hzone, htemplate, hgroup, hback, not_true_eq_false, if_false]

theorem decodeSent_encodeZen (ch : Channel) : decodeSent (encodeZen ch) = .ok (.zen ch) := by
  have h2 : (encodeZen ch).get 2 = cidByte ch := rfl
  have h3 : (encodeZen ch).get 3 = 0x08 := rfl
  have hz : (encodeZen ch).zeroFrom 4 = true := pad64_zeroFrom (le_refl 4) (by simp)
  rw [decodeSent_zen rfl, decodeZen, h2, Channel.ofCid_cidByte]
  simp only [h3, hz, ne_eq, not_true_eq_false, if_false, if_true]

theorem decodeHandshake_fwinfo {F : Frame} (h : F.tag = (0x11, 0x01)) : decodeHandshake F = .ok (.fwinfo F) := if_pos h

theorem decodeHandshake_ltinfo {F : Frame} (h : F.tag = (0x21, 0x03)) : decodeHandshake F = .ok (.ltinfo F) := by
  simp [decodeHandshake, h]

/-- Settles O1: a SET by its command word, a frame kind by its layout, the others by their place. -/
theorem decodeEncodeRoundTrip : Obligations.DecodeEncodeRoundTrip := by
  intro i hwf
  cases i
  case light f => exact decodeSent_encodeLight (of_decide_eq_true hwf)
  case palc f => exact decodeSent_encodePalc (of_decide_eq_true hwf)
  case palx ch => exact decodeSent_encodePalx ch
  case palt f => exact decodeSent_encodePalt f
  case zone f =>
    obtain ⟨ht, hg⟩ := Bool.and_eq_true_iff.mp hwf
    exact decodeSent_encodeZone (of_decide_eq_true ht) (of_decide_eq_true hg)
  case zen ch => exact decodeSent_encodeZen ch
  case fwinfo F => exact decodeHandshake_fwinfo (of_decide_eq_true hwf)
  case ltinfo F => exact decodeHandshake_ltinfo (of_decide_eq_true hwf)
  case fwreq F => rfl
  case ltreq F => rfl
  case setint F => rfl
  case ltconf F => rfl
  case status F => rfl
  case init => rfl
  case poll => rfl
  case emit => rfl
  all_goals exact decode_rawCmd _ _

/-! #### Where the fields of a command word lie -/

/-- Two neighbouring slices make one. -/
theorem bits_add (lo a b v : Nat) : bits lo a v + 2 ^ a * bits (lo + a) b v = bits lo (a + b) v := by
  simp only [bits, Nat.shiftRight_eq_div_pow, Nat.pow_add, Nat.mod_mul, Nat.div_div_eq_div_mul]

theorem bits_lt (lo len v : Nat) : bits lo len v < 2 ^ len := Nat.mod_lt _ (Nat.two_pow_pos len)

/-- A slice of a slice. -/
theorem extractLsb'_ofNat_bits {w lo len : Nat} (o v : Nat) (h : lo + len ≤ w) :
    (BitVec.ofNat w (bits o w v)).extractLsb' lo len = BitVec.ofNat len (bits (o + lo) len v) := by
  apply BitVec.eq_of_toNat_eq
  rw [BitVec.extractLsb'_toNat, BitVec.toNat_ofNat, BitVec.toNat_ofNat, Nat.mod_eq_of_lt (bits_lt o w v),
    Nat.mod_eq_of_lt (bits_lt (o + lo) len v)]
  apply Nat.eq_of_testBit_eq
  intro i
  simp only [bits, Nat.testBit_mod_two_pow, Nat.testBit_shiftRight, Nat.add_assoc]
  by_cases hi : i < len
  · simp [hi, show lo + i < w by omega]
  · simp [hi]

/-- The colour fields of a number, from bit `o` on, make its bits there. -/
theorem foldr_colourFields (k v o : Nat) :
    ((List.range k).map fun i => BitVec.ofNat 24 (bits (o + 24 * i) 24 v)).foldr
      (fun (c : BitVec 24) acc => c.toNat + 2 ^ 24 * acc) 0 = bits o (24 * k) v := by
  induction k generalizing o with
  | zero => simp [bits, Nat.mod_one]
  | succ k ih =>
    have hshift : ∀ i, o + 24 * (i + 1) = o + 24 + 24 * i := fun i => by omega
    rw [List.range_succ_eq_map, List.map_cons, List.map_map, List.foldr_cons]
    simp only [Function.comp_def, Nat.succ_eq_add_one, hshift]
    rw [ih (o + 24), Nat.mul_zero, Nat.add_zero, BitVec.toNat_ofNat, Nat.mod_eq_of_lt (bits_lt o 24 v), bits_add,
      show 24 + 24 * k = 24 * (k + 1) by omega]

/-- The number of the command word of a number. -/
theorem cmdWord_toNat_ofNat {v : Nat} (h : v < 2 ^ 977) : (CmdWord.ofNat v).toNat = v := by
  have hcols := foldr_colourFields 40 v 17
  have hall := bits_add 0 17 960 v
  rw [CmdWord.toNat, CmdWord.ofNat, hcols, BitVec.toNat_ofNat, Nat.mod_eq_of_lt (bits_lt 0 17 v)]
  rw [Nat.zero_add] at hall
  rw [hall, bits, Nat.shiftRight_zero, Nat.mod_eq_of_lt h]

/-- The colour in field `i` of a command word. -/
theorem ofField_ofNat_bits (o v : Nat) :
    Colour.ofField (BitVec.ofNat 24 (bits o 24 v)) =
      ⟨BitVec.ofNat 8 (bits (o + 16) 8 v), BitVec.ofNat 8 (bits (o + 8) 8 v), BitVec.ofNat 8 (bits o 8 v)⟩ := by
  rw [Colour.ofField, extractLsb'_ofNat_bits o v (by omega), extractLsb'_ofNat_bits o v (by omega),
    extractLsb'_ofNat_bits o v (by omega), Nat.add_zero o]

/-- Settles O4: each field is a slice of the head or of a colour field. -/
theorem commandWordFields : Obligations.CommandWordFields := by
  intro v hv
  have field : ∀ lo len, lo + len ≤ 17 →
      (CmdWord.ofNat v).head.extractLsb' lo len = BitVec.ofNat len (bits lo len v) := fun lo len h => by
    rw [CmdWord.ofNat, extractLsb'_ofNat_bits 0 v h, Nat.zero_add]
  refine ⟨cmdWord_toNat_ofNat hv, congrArg Channel.ofSel (field 0 2 (by omega)), field 2 6 (by omega), field 8 3 (by omega),
    field 11 6 (by omega), fun i hi => ?_⟩
  rw [← ofField_ofNat_bits]
  simp [cmdArgs, CmdWord.ofNat, hi]

/-! #### The effect codes -/

/-- The decoder's answer to a command word, by its code. -/
theorem decode_cmd_by_code (w : CmdWord) :
    ((cmdCode w).toNat < 40 →
      ∃ e : Effect, e.info.code = (cmdCode w).toNat ∧ decode (.port (.cmd w)) = .ok (Instr.ofEffect e (cmdArgs w))) ∧
    (40 ≤ (cmdCode w).toNat → decode (.port (.cmd w)) = .error (.unknownEffect (cmdCode w) (cmdArgs w))) := by
  constructor
  · intro h
    obtain ⟨e, he⟩ : ∃ e, Effect.ofCode (cmdCode w) = some e := ⟨_, List.getElem?_eq_getElem h⟩
    exact ⟨e, by rw [← Effect.code_toNat, Effect.code_of_ofCode he], decodeCmd_of_ofCode he⟩
  · intro h
    simp [decode, decodeCmd, Machine.ofCode_eq_none_iff.mpr h]

/-- No family has groups of length 0. -/
theorem info_len_ne_zero (e : Effect) : e.info.len ≠ some 0 := by
  cases e <;> decide

/-- Settles O5: the decoder by the code, and the table column by column. -/
theorem effectCodesSelectTheInstruction : Obligations.EffectCodesSelectTheInstruction := by
  refine ⟨decode_cmd_by_code, ?_⟩
  rintro es rfl
  exact ⟨rfl, rfl, rfl, fun e _ => info_len_ne_zero e, rfl, rfl, fun _ => rfl⟩

/-- Settles O6: closed words, decoded. -/
theorem specWordsDecode : Obligations.SpecWordsDecode := by
  refine ⟨?_, ?_, ?_, ?_, decodeSent_encodePalx .sync, decodeSent_encodeZen .logo, decodeHandshake_fwinfo rfl, decodeHandshake_ltinfo rfl⟩
  all_goals decide +kernel

end Sys2Proof

/-! ### O10, O14 to O17, O19: the bytes of the frames of the three paths -/

namespace Sys2Proof

/-- A byte of the middle part of a list. -/
theorem getD_append_mid {pre mid post : List Byte} {lo k : Nat} (hl : pre.length = lo) (h : k < mid.length) :
    (pre ++ mid ++ post).getD (lo + k) 0 = mid.getD k 0 := by
  rw [List.append_assoc, List.getD_append_right _ _ _ _ (by omega), List.getD_append _ _ _ _ (by omega)]
  congr 1
  omega

/-- A byte of the last part of a list. -/
theorem getD_append_last {pre mid : List Byte} {lo : Nat} (hl : pre.length = lo) (k : Nat) :
    (pre ++ mid).getD (lo + k) 0 = mid.getD k 0 := by
  rw [List.getD_append_right _ _ _ _ (by omega)]
  congr 1
  omega

/-- A padded list is zero past its end. -/
theorem pad64_get_past {L : List Byte} {k : Nat} (h64 : L.length ≤ 64) (hk : L.length ≤ k) : (pad64 L).get k = 0 := by
  rw [pad64_get h64, List.getD_eq_default _ _ hk]

/-- The first 64 bytes of a list, as a frame. -/
theorem pad64_first64_get (L : List Byte) {k : Nat} (hk : k < 64) : (pad64 (first64 L)).get k = L.getD k 0 := by
  rw [pad64_get (by simp [first64])]
  simp [first64, List.getD_eq_getElem?_getD, List.getElem?_take_of_lt hk]

/-- Byte `j` of colour `i` after `lo` other bytes. -/
theorem append_flatMap_grb_getD {pre : List Byte} {cs : List Colour} {lo i j : Nat} {x : Colour} (hl : pre.length = lo)
    (hx : cs[i]? = some x) (hj : j < 3) : (pre ++ cs.flatMap grb).getD (lo + 3 * i + j) 0 = (grb x).getD j 0 := by
  obtain ⟨hi, rfl⟩ := List.getElem?_eq_some_iff.mp hx
  rw [Nat.add_assoc, getD_append_last hl, flatMap_grb_getD hi hj]

end Sys2Proof

namespace Sys2Proof.Machine

/-! #### LIGHT -/

theorem colourBytes_length (cols : List Colour) : (colourBytes cols).length = 3 * cols.length := flatMap_grb_length cols

section
variable (c : Cfg) (ch : Channel) (e : Effect) (m : CatalogRow) (t0 t1 : Byte) {n : Nat} {cols : List Colour}

theorem lightBody_length (hc : cols.length = n) (hn : n ≤ 16) : (lightBody n cols).length = 48 := by
  rw [lightBody, List.length_append, colourBytes_length, zeros_length]
  omega

theorem footer_length : (footer c.raw ch e m n).length = 5 := by
  rw [footer, List.length_map, footerOrder_length]

/-- The parts of a LIGHT frame fill its first 60 bytes. -/
theorem lightParts_length (hc : cols.length = n) (hn : n ≤ 16) :
    (lightHeader ch m t0 t1 ++ lightBody n cols ++ footer c.raw ch e m n).length = 60 := by
  rw [List.length_append, List.length_append, lightBody_length hc hn, footer_length]
  rfl

/-- LIGHT bytes 7..54. -/
theorem lightFrame_body (hc : cols.length = n) (hn : n ≤ 16) {k : Nat} (hk : k < 48) :
    (lightFrame c.raw ch e m n cols t0 t1).get (7 + k) = (lightBody n cols).getD k 0 := by
  rw [lightFrame, pad64_get (by rw [lightParts_length c ch e m t0 t1 hc hn]; omega),
    getD_append_mid (lo := 7) rfl (by rw [lightBody_length hc hn]; exact hk)]

/-- LIGHT bytes 55..59. -/
theorem lightFrame_footer (hc : cols.length = n) (hn : n ≤ 16) (k : Nat) :
    (lightFrame c.raw ch e m n cols t0 t1).get (55 + k) = (footer c.raw ch e m n).getD k 0 := by
  rw [lightFrame, pad64_get (by rw [lightParts_length c ch e m t0 t1 hc hn]; omega),
    getD_append_last (lo := 55) (by rw [List.length_append, lightBody_length hc hn]; rfl)]

/-- LIGHT bytes 60..63. -/
theorem lightFrame_past (hc : cols.length = n) (hn : n ≤ 16) {k : Nat} (hk : 60 ≤ k) :
    (lightFrame c.raw ch e m n cols t0 t1).get k = 0 := by
  have hlen := lightParts_length c ch e m t0 t1 hc hn
  exact pad64_get_past (by omega) (by omega)

/-- Colour `i` of the body of a LIGHT frame. -/
theorem lightBody_colour {i j : Nat} {x : Colour} (hx : cols[i]? = some x) (hj : j < 3) :
    (lightBody n cols).getD (3 * i + j) 0 = (grb x).getD j 0 := by
  obtain ⟨hi, rfl⟩ := List.getElem?_eq_some_iff.mp hx
  rw [lightBody, colourBytes, List.getD_append _ _ _ _ (by rw [flatMap_grb_length]; omega), flatMap_grb_getD hi hj]

/-- Past its colours the body of a LIGHT frame is zero. -/
theorem lightBody_past (hc : cols.length = n) {k : Nat} (hk : 3 * n ≤ k) : (lightBody n cols).getD k 0 = 0 := by
  rw [lightBody, List.getD_append_right _ _ _ _ (by rw [colourBytes_length]; omega), zeros_getD]

end

/-- Settles O10: header, body, footer and padding, part by part. -/
theorem lightFrameLayout : Obligations.LightFrameLayout := by
  rintro c ch e m n cols t0 t1 F hc hn rfl
  refine ⟨rfl, rfl, rfl, rfl, rfl, rfl, rfl, fun i x hx => ?_, fun k hlo hhi => ?_, fun j f hf => ?_, fun k hk _ => ?_⟩
  · have hi : i < n := hc ▸ (List.getElem?_eq_some_iff.mp hx).1
    have byte : ∀ j < 3, (lightFrame c.raw ch e m n cols t0 t1).get (7 + (3 * i + j)) = (grb x).getD j 0 := fun j hj => by
      rw [lightFrame_body c ch e m t0 t1 hc hn (by omega), lightBody_colour hx hj]
    refine ⟨byte 0 (by omega), ?_, ?_⟩
    · rw [show 8 + 3 * i = 7 + (3 * i + 1) by omega, byte 1 (by omega)]
      rfl
    · rw [show 9 + 3 * i = 7 + (3 * i + 2) by omega, byte 2 (by omega)]
      rfl
  · rw [show k = 7 + (k - 7) by omega, lightFrame_body c ch e m t0 t1 hc hn (by omega), lightBody_past hc (by omega)]
  · rw [lightFrame_footer c ch e m t0 t1 hc hn, List.getD_eq_getElem?_getD, footer, List.getElem?_map, hf]
    cases f <;> rfl
  · exact lightFrame_past c ch e m t0 t1 hc hn hk

/-! #### PALC, PALX, PALT -/

/-- The colours of a PALC frame that lie before byte 64. -/
theorem palc_colour {ch : Channel} {cols : List Colour} {i j : Nat} {x : Colour} (hx : cols[i]? = some x) (hj : j < 3)
    (h64 : 3 + 3 * i + j < 64) :
    (pad64 (first64 ([0x22, 0x10, cidByte ch] ++ colourBytes cols))).get (3 + 3 * i + j) = (grb x).getD j 0 := by
  rw [pad64_first64_get _ h64, colourBytes, append_flatMap_grb_getD (lo := 3) rfl hx hj]

/-- The three bytes of a colour of a PALC frame, one of the first twenty. -/
theorem palc_whole_colour {ch : Channel} {cols : List Colour} {i : Nat} {x : Colour} (hx : cols[i]? = some x) (hi : i < 20) :
    let F := pad64 (first64 ([0x22, 0x10, cidByte ch] ++ colourBytes cols))
    F.get (3 + 3 * i) = x.g ∧ F.get (4 + 3 * i) = x.r ∧ F.get (5 + 3 * i) = x.b := by
  refine ⟨palc_colour (j := 0) hx (by omega) (by omega), ?_, ?_⟩
  · rw [show 4 + 3 * i = 3 + 3 * i + 1 by omega, palc_colour hx (by omega) (by omega)]
    rfl
  · rw [show 5 + 3 * i = 3 + 3 * i + 2 by omega, palc_colour hx (by omega) (by omega)]
    rfl

/-- Settles O14: the three frames, part by part. -/
theorem denseFramesLayout : Obligations.DenseFramesLayout := by
  intro ch m cols t0 t1 h20
  refine ⟨_, _, _, rfl, ⟨rfl, rfl, rfl, fun i x hx => ?_, fun k hlo h64 => ?_⟩, ⟨rfl, rfl, rfl, fun k hlo h64 => ?_⟩,
    rfl, rfl, rfl, rfl, rfl, rfl, rfl, rfl, rfl, rfl, rfl, rfl, rfl, rfl, rfl, fun k hlo h64 => ?_⟩
  · exact palc_whole_colour hx (lt_of_lt_of_le (List.getElem?_eq_some_iff.mp hx).1 h20)
  · rw [pad64_first64_get _ h64, List.getD_eq_default]
    rw [List.length_append, colourBytes_length]
    simpa using hlo
  · exact pad64_get_past (by simp) (by simpa using hlo)
  · exact pad64_get_past (by simp [denseSuffix]) (by simpa [denseSuffix] using hlo)

/-- Settles O15: too many colours are refused or cut off at byte 64. -/
theorem denseOverflow : Obligations.DenseOverflow := by
  intro c ch e m n col s t hp hm hn hs ht h20
  have h40 := count_le_forty c (by rw [hp]; exact nofun) hm hn
  have he := Effect.ofCode_code e
  refine ⟨fun hd => ?_, fun hd =>
    ⟨pad64 (first64 ([0x22, 0x10, cidByte ch] ++ colourBytes (col.list.take n))), ?_, rfl, rfl, rfl, fun i x hi hx => ?_,
      fun x hx => ?_⟩⟩
  · exact build_rejected he hm h40 (validate_fit_error hn hs ht (by simp [checkFit, hp, h20, hd]))
  · rw [build_valid c ch col he hm h40 hn hs ht fun _ => .inr hd]
    simp only [pathFrames, hp]
    rfl
  · exact palc_whole_colour (cols := col.list.take n) (by rw [List.getElem?_take_of_lt (by omega), hx]) hi
  · exact palc_colour (cols := col.list.take n) (i := 20) (j := 0) (by rw [List.getElem?_take_of_lt h20, hx]) (by omega)
      (by omega)

/-! #### ZONE and ZEN -/

/-- The five offsets of the template lie in it and are five different ones (R6). -/
theorem template_offsets (c : Cfg) :
    (∀ o ∈ [c.raw.wtTlo, c.raw.wtThi, c.raw.wtMod, c.raw.wtD0, c.raw.wtD1], o < c.raw.wtConst.length) ∧
    [c.raw.wtTlo, c.raw.wtThi, c.raw.wtMod, c.raw.wtD0, c.raw.wtD1].Nodup := by
  have h := c.passes .templateShape
  simp only [RawCfg.passes, Bool.and_eq_true, decide_eq_true_eq, List.all_eq_true] at h
  obtain ⟨⟨hlen, hlt⟩, hnodup⟩ := h
  exact ⟨fun o ho => hlen.symm ▸ hlt o ho, hnodup⟩

/-- Settles O17: the five writes are at different offsets of the template. -/
theorem wingsTemplate : Obligations.WingsTemplate := by
  rintro c t0 t1 mod d0 d1 T rfl
  obtain ⟨hlt, hnodup⟩ := template_offsets c
  simp only [List.forall_mem_cons] at hlt
  simp only [List.nodup_cons, List.mem_cons, not_or] at hnodup
  obtain ⟨l0, l1, l2, l3, l4, -⟩ := hlt
  obtain ⟨⟨n01, n02, n03, n04, -⟩, ⟨n12, n13, n14, -⟩, ⟨n23, n24, -⟩, ⟨n34, -⟩, -⟩ := hnodup
  refine ⟨wt_length c t0 t1 mod d0 d1, ?_, ?_, ?_, ?_, ?_, fun j _ hj => ?_⟩
  · simp [wt, Ne.symm n01, Ne.symm n02, Ne.symm n03, Ne.symm n04, l0]
  · simp [wt, Ne.symm n12, Ne.symm n13, Ne.symm n14, l1]
  · simp [wt, Ne.symm n23, Ne.symm n24, l2]
  · simp [wt, Ne.symm n34, l3]
  · simp [wt, l4]
  · simp only [List.mem_cons, List.not_mem_nil, or_false, not_or] at hj
    obtain ⟨j0, j1, j2, j3, j4⟩ := hj
    simp [wt, Ne.symm j0, Ne.symm j1, Ne.symm j2, Ne.symm j3, Ne.symm j4]

section
variable (c : Cfg) (ch : Channel) (c1 : Colour) (t0 t1 : Byte) (i : Nat)

/-- The template in the frame of zone `i` (R175). -/
def zoneTemplate : List Byte := wt c.raw t0 t1 (zoneMod i) (zoneDir i).1 (zoneDir i).2

theorem zoneTemplate_length : (zoneTemplate c t0 t1 i).length = 13 := wt_length ..

theorem zoneFrame_eq : zoneFrame c.raw ch c1 t0 t1 i =
    pad64 ([0x22, 0x20, cidByte ch, BitVec.ofNat 8 i] ++ zoneTemplate c t0 t1 i ++ paletteGroup c1 (i % 4)) := rfl

theorem zoneParts_length_le :
    ([0x22, 0x20, cidByte ch, BitVec.ofNat 8 i] ++ zoneTemplate c t0 t1 i ++ paletteGroup c1 (i % 4)).length ≤ 64 := by
  have := paletteGroup_length_le c1 (i % 4)
  simp only [List.length_append, zoneTemplate_length, List.length_cons, List.length_nil]
  omega

/-- ZONE bytes 4..16: the template. -/
theorem zoneFrame_template {j : Nat} (hj : j < 13) :
    some ((zoneFrame c.raw ch c1 t0 t1 i).get (4 + j)) = (zoneTemplate c t0 t1 i)[j]? := by
  have hlt : j < (zoneTemplate c t0 t1 i).length := by rwa [zoneTemplate_length]
  rw [zoneFrame_eq, pad64_get (zoneParts_length_le c ch c1 t0 t1 i), getD_append_mid (lo := 4) rfl hlt,
    List.getElem?_eq_getElem hlt, List.getD_eq_getElem _ _ hlt]

/-- ZONE bytes from 17 on: the palette group, then zeros. -/
theorem zoneFrame_group (k : Nat) :
    (zoneFrame c.raw ch c1 t0 t1 i).get (17 + k) = (paletteGroup c1 (i % 4)).getD k 0 := by
  rw [zoneFrame_eq, pad64_get (zoneParts_length_le c ch c1 t0 t1 i),
    getD_append_last (by rw [List.length_append, zoneTemplate_length]; rfl)]

end

/-- A palette group is its colour twice, on the wire (R172). -/
theorem paletteGroup_colour (c1 : Colour) {j k : Nat} (hj : j < 4) (hk : k < 2) :
    ((paletteGroup c1 j).getD (3 * k) 0, (paletteGroup c1 j).getD (3 * k + 1) 0, (paletteGroup c1 j).getD (3 * k + 2) 0) =
      if j = 0 then (c1.g, c1.r, c1.b)
      else if j = 1 then (scaleTwoFifths c1.g, scaleTwoFifths c1.r, scaleTwoFifths c1.b)
      else if j = 2 then
        (scaleQuarter (scaleTwoFifths c1.g), scaleQuarter (scaleTwoFifths c1.r), scaleQuarter (scaleTwoFifths c1.b))
      else (0, 0, 0) := by
  interval_cases j <;> interval_cases k <;> rfl

/-- Past its sixth byte a palette group is zero. -/
theorem paletteGroup_past (c1 : Colour) (j : Nat) {k : Nat} (hk : 6 ≤ k) : (paletteGroup c1 j).getD k 0 = 0 := by
  rw [paletteGroup_take, List.getD_eq_default]
  rw [List.length_take]
  omega

/-- Zone `i` of the list of the eight zones. -/
theorem zones_getElem? {f : Nat → Frame} {i : Nat} {Z : Frame} (h : ((List.range 8).map f)[i]? = some Z) :
    i < 8 ∧ Z = f i := by
  obtain ⟨hi, rfl⟩ := List.getElem?_eq_some_iff.mp h
  exact ⟨by simpa using hi, by simp⟩

theorem zoneMod_eq (i : Nat) : zoneMod i = if i = 3 ∨ i = 7 then 5 else 1 := rfl

theorem zoneDir_eq (i : Nat) : zoneDir i = (if i < 4 then 0x04 else 0x84, if i < 4 then 0x84 else 0x04) := by
  unfold zoneDir
  split <;> rfl

/-- Settles O16: the eleven frames, part by part. -/
theorem wingsFramesLayout : Obligations.WingsFramesLayout := by
  intro c ch c1 t0 t1
  refine ⟨_, _, _, (List.range 8).map (zoneFrame c.raw ch c1 t0 t1), rfl, by simp,
    ⟨rfl, rfl, rfl, fun k hk _ => pad64_get_past (by simp) (by simpa using hk)⟩,
    ⟨rfl, rfl, rfl, fun k hk _ => pad64_get_past (by simp) (by simpa using hk)⟩,
    ⟨rfl, rfl, rfl, rfl, fun k hk _ => pad64_get_past (by simp) (by simpa using hk)⟩, fun i Z hZ => ?_⟩
  obtain ⟨hi, rfl⟩ := zones_getElem? hZ
  refine ⟨rfl, rfl, rfl, ?_, fun j hj => ?_, fun k hk => ?_, fun k hk _ => ?_⟩
  · change (BitVec.ofNat 8 i).toNat = i
    rw [BitVec.toNat_ofNat, Nat.mod_eq_of_lt (by omega)]
  · rw [zoneFrame_template c ch c1 t0 t1 i hj, zoneTemplate, zoneMod_eq, zoneDir_eq]
  · rw [show 18 + 3 * k = 17 + (3 * k + 1) by omega, show 19 + 3 * k = 17 + (3 * k + 2) by omega, zoneFrame_group,
      zoneFrame_group, zoneFrame_group, paletteGroup_colour c1 (Nat.mod_lt i (by omega)) hk]
  · rw [show k = 17 + (k - 17) by omega, zoneFrame_group, paletteGroup_past c1 _ (by omega)]

/-! #### The frame kinds of a burst -/

/-- A frame that is zero from byte `lo` on, as the decoder checks it. -/
theorem zeroFrom_of_get {F : Frame} {lo : Nat} (h : ∀ k, lo ≤ k → k < 64 → F.get k = 0) : F.zeroFrom lo = true := by
  rw [Frame.zeroFrom, decide_eq_true_eq, Frame.slice, zeros]
  apply List.ext_getElem
  · simp
  · intro i h1 h2
    simp only [List.length_replicate] at h2
    simpa using h (lo + i) (by omega) (by omega)

/-- A LIGHT frame of the default path is the encoding of its own fields. -/
theorem lightFrame_is_encoding (c : Cfg) (ch : Channel) (e : Effect) (m : CatalogRow) (t0 t1 : Byte) {n : Nat}
    {cols : List Colour} (hc : cols.length = n) (hn : n ≤ 16) :
    ∃ f : LightFields, f.cid = ch ∧ (Instr.light f).wellFormed = true ∧
      encodeLight f = lightFrame c.raw ch e m n cols t0 t1 :=
  ⟨_, rfl, by simp [Instr.wellFormed], encodeLight_of_frame rfl rfl rfl rfl
    (zeroFrom_of_get fun _ hk _ => lightFrame_past c ch e m t0 t1 hc hn hk)⟩

/-- A frame with PALC's opcode is the encoding of its own fields. -/
theorem palc_is_encoding {F : Frame} {ch : Channel} (h0 : F.get 0 = 0x22) (h1 : F.get 1 = 0x10) (h2 : F.get 2 = cidByte ch) :
    ∃ p : PalcFields, p.cid = ch ∧ (Instr.palc p).wellFormed = true ∧ encodePalc p = F :=
  ⟨_, rfl, by simp [Instr.wellFormed], encodePalc_of_frame h0 h1 h2⟩

/-- The fields of the frame of zone `i`. -/
def zoneFields (c : Cfg) (ch : Channel) (c1 : Colour) (t0 t1 : Byte) (i : Nat) : ZoneFields :=
  let F := zoneFrame c.raw ch c1 t0 t1 i
  ⟨ch, (F.get 3).truncate 3, F.slice 4 13, F.slice 17 6⟩

theorem zoneFrame_index (c : Cfg) (ch : Channel) (c1 : Colour) (t0 t1 : Byte) {i : Nat} (hi : i < 8) :
    ((zoneFrame c.raw ch c1 t0 t1 i).get 3).toNat = i := by
  change (BitVec.ofNat 8 i).toNat = i
  rw [BitVec.toNat_ofNat, Nat.mod_eq_of_lt (by omega)]

theorem zoneFields_zone (c : Cfg) (ch : Channel) (c1 : Colour) (t0 t1 : Byte) {i : Nat} (hi : i < 8) :
    (zoneFields c ch c1 t0 t1 i).zone.toNat = i := by
  rw [zoneFields, BitVec.truncate_eq_setWidth, BitVec.toNat_setWidth, zoneFrame_index c ch c1 t0 t1 hi]
  exact Nat.mod_eq_of_lt hi

/-- The frame of a zone is the encoding of its own fields. -/
theorem encodeZone_zoneFields (c : Cfg) (ch : Channel) (c1 : Colour) (t0 t1 : Byte) {i : Nat} (hi : i < 8) :
    encodeZone (zoneFields c ch c1 t0 t1 i) = zoneFrame c.raw ch c1 t0 t1 i := by
  refine encodeZone_of_frame rfl rfl rfl ?_ (zeroFrom_of_get fun k hk _ => ?_)
  · rw [zoneFrame_index c ch c1 t0 t1 hi]
    omega
  · rw [show k = 17 + (k - 17) by omega, zoneFrame_group, paletteGroup_past c1 _ (by omega)]

/-- Settles O19: the frames of each path are the encodings of their own fields. -/
theorem burstsAreTheTableFrameKinds : Obligations.BurstsAreTheTableFrameKinds := by
  intro c ch e n col s fl hb
  obtain ⟨e', m, t, he, hm, h40, hv, rfl⟩ := build_ok hb
  rw [Effect.ofCode_code] at he
  cases he
  obtain ⟨hn, -, -, -⟩ := validate_ok.mp hv
  cases hp : e.info.path with
  | default =>
    have hlen : (col.list.take n).length = n := by rw [List.length_take, col.len]; exact Nat.min_eq_left h40
    obtain ⟨f, hch, hwf, hf⟩ := lightFrame_is_encoding c ch e m t.1 t.2 hlen (default_count c hp hm hn)
    exact ⟨f, hch, hwf, by simp only [pathFrames, hp, hf]⟩
  | dense =>
    obtain ⟨p, hch, hwf, hF⟩ :=
      palc_is_encoding (F := pad64 (first64 ([0x22, 0x10, cidByte ch] ++ colourBytes (col.list.take n)))) (ch := ch)
        rfl rfl rfl
    exact ⟨p, ⟨ch, m.opcode, t.1, t.2⟩, hch, hwf, rfl, by simp only [pathFrames, hp, denseFrames, hF]; rfl⟩
  | wings =>
    obtain ⟨p, hch, hwf, hF⟩ := palc_is_encoding (F := pad64 [0x22, 0x10, cidByte ch]) (ch := ch) rfl rfl rfl
    have hne : col.list ≠ [] := by
      intro h
      have := col.len
      simp [h] at this
    refine ⟨p, (List.range 8).map (zoneFields c ch (col.list.head hne) t.1 t.2), hch, hwf, by simp, fun i z hz => ?_, ?_⟩
    · obtain ⟨hi, rfl⟩ := List.getElem?_eq_some_iff.mp hz
      simp only [List.length_map, List.length_range] at hi
      rw [List.getElem_map, List.getElem_range]
      exact ⟨rfl, zoneFields_zone c ch _ t.1 t.2 hi, by simp [Instr.wellFormed, zoneFields]⟩
    · have hzones : ((List.range 8).map (zoneFields c ch (col.list.head hne) t.1 t.2)).map encodeZone
          = (List.range 8).map (zoneFrame c.raw ch (col.list.head hne) t.1 t.2) := by
        rw [List.map_map]
        exact List.map_congr_left fun i hi => encodeZone_zoneFields c ch _ t.1 t.2 (List.mem_range.mp hi)
      simp only [pathFrames, hp, wingsFrames, hF, hzones]
      rfl

end Sys2Proof.Machine
